-- ==== Sys2Proof/Word.lean ====
section
/-! DEFINITION. The words, indexes and counts the part is made of (00 section 5), and a table of a fixed number of rows. -/

namespace Sys2Proof

/-- A window register: 16 bits (11.6). -/
abbrev Word := BitVec 16

/-- An address of the register window, a command code or a command argument. -/
abbrev Byte := BitVec 8

/-- A value of the time counter, in µs (R43). -/
abbrev Time := BitVec 32

/-- A 12-bit code: every result, threshold and stored value (00 section 5). -/
abbrev Code12 := BitVec 12

/-- Slots are numbered 0–31, watch rules 0–15, load switches 0–3, PWM channels 0–3 (00 section 5). -/
abbrev SlotIx := Fin 32
abbrev RuleIx := Fin 16
abbrev SwIx := Fin 4
abbrev ChIx := Fin 4

/-- One bit of a register from a mark that is set or clear. -/
abbrev bit (b : Bool) : BitVec 1 := BitVec.ofBool b

/-- The `len` bits of a register from bit `lo` upwards. -/
abbrev field {w : Nat} (d : BitVec w) (lo len : Nat) : BitVec len := d.extractLsb' lo len

/-- A count that saturates at `top` (00 section 5). -/
def satInc (top n : Nat) : Nat := min (n + 1) top

/-- A table whose row `i` is `f i`. -/
def tabulate {n : Nat} {α : Type} (f : Fin n → α) : Vector α n :=
  ⟨((List.finRange n).map f).toArray, by simp⟩

@[simp] theorem tabulate_get {n : Nat} {α : Type} (f : Fin n → α) (i : Fin n) :
    (tabulate f)[i] = f i := by
  simp [tabulate, Fin.getElem_fin]

@[simp] theorem tabulate_getElem {n : Nat} {α : Type} (f : Fin n → α) (i : Nat) (h : i < n) :
    (tabulate f)[i] = f ⟨i, h⟩ := by
  simp [tabulate]

end Sys2Proof
end

