-- ==== Sys2Proof/Syntax.lean ====
section
/-! DEFINITION. The commands: one constructor for each row of opcode_table.json, with the row's operands. -/

namespace Sys2Proof

/-- The trigger pins (R51). -/
inductive TrgPin where
  | trg0 | trg1
  deriving DecidableEq, Repr

/-- The level of a pin (R51). -/
inductive Level where
  | low | high
  deriving DecidableEq, Repr

/-- The writable staging registers of 11.6.2: addresses 09h–0Dh and 10h–17h. -/
inductive StgReg where
  | slotA | slotB | leader | period | phase
  | watchA | watchT1 | watchT2 | watchH | watchCount | watchAct | watchCapv | watchSnap
  deriving DecidableEq, Repr

/-- The PWM registers that hold a pending value for the next period start (R152). -/
inductive PwmReg where
  | period | duty | trig
  deriving DecidableEq, Repr

/-- The commands and events of the table, in the table's order. Arguments: a host command carries the 8-bit argument of
R192, also where R192 says it is ignored; a register write carries the 16-bit data of its frame. -/
inductive Instr where
  | frame (w : BitVec 32)
  | frameCutShort (bits : Fin 32)
  | registerWrite (addr : Byte) (data : Word)
  | unknownCommand (code arg : Byte)
  | loadSlot (n : Byte)
  | loadWatch (n : Byte)
  | commit (arg : Byte)
  | stagingFieldWrite (r : StgReg) (data : Word)
  | trigger (n : Byte)
  | sampleCompletion (sample : Nat) (raw : Code12)
  | deadlineExpiry
  | abort (arg : Byte)
  | restartConverter (arg : Byte)
  | clearSlotStats (n : Byte)
  | timeCounterTick (micros : Nat)
  | timeLoRead
  | periodicExpiry (n : SlotIx)
  | trgEdge (pin : TrgPin) (level : Level)
  | pwmTriggerPoint (c : ChIx)
  | capturePop (arg : Byte)
  | captureFlush (arg : Byte)
  | capCtrlWrite (data : Word)
  | resultSelWrite (data : Word)
  | queueEntryRead
  | engineJobRead
  | faultInfoRead
  | ack (n : Byte)
  | arm (n : Byte)
  | disarm (n : Byte)
  | triplogClear (arg : Byte)
  | triplogSelWrite (data : Word)
  | swOn (n : Byte)
  | swOff (n : Byte)
  | swClear (n : Byte)
  | softStartExpiry (n : SwIx)
  | refillExpiry (n : SwIx)
  | retryExpiry (n : SwIx)
  | currentLimit (n : SwIx)
  | swCfgWrite (n : SwIx) (data : Word)
  | swTripsWrite (n : SwIx) (data : Word)
  | pwmPeriodStart (c : ChIx)
  | pwmDutyEnd (c : ChIx)
  | pwmCtrlWrite (c : ChIx) (data : Word)
  | pwmConfigWrite (c : ChIx) (r : PwmReg) (data : Word)
  | irqPulseExpiry
  | evtLatchWrite (data : Word)
  | evtEnableWrite (data : Word)
  | irqCtrlWrite (data : Word)
  | guardEnter (arg : Byte)
  | guardExit (arg : Byte)
  | softReset (arg : Byte)
  | powerOnReset
  | resetnReset
  | resetEnd
  | resetCauseRead
  | csnRise
  deriving DecidableEq, Repr

end Sys2Proof
end

