-- ==== Sys2Proof/WellFormed.lean ====
section
/-! DEFINITION. Which operands a row of the table admits, where the operand's type does not say so already. -/

namespace Sys2Proof

/-- The 19 command codes of 11.6.5. -/
def commandCodes : List Byte :=
  [0x01, 0x02, 0x03, 0x10, 0x11, 0x12, 0x13, 0x20, 0x21, 0x30, 0x31, 0x32, 0x33,
   0x40, 0x41, 0x42, 0x50, 0x51, 0x60]

/-- The addresses whose write has a behaviour of its own and so a row of its own: COMMAND, the writable staging registers,
RESULT_SEL, CAP_CTRL, TRIPLOG_SEL, SW_CFGn and SW_TRIPSn, the writable PWM registers, EVT_LATCH, EVT_ENABLE and IRQ_CTRL
(11.6). Every other address is REGISTER_WRITE's (R191). -/
def writesOwnRow (addr : Byte) : Bool :=
  let a := addr.toNat
  a == 0x01 || (0x09 ≤ a && a ≤ 0x0D) || (0x10 ≤ a && a ≤ 0x17) || a == 0x40 || a == 0x48 || a == 0x51 ||
    (0x60 ≤ a && a ≤ 0x6F && (a % 4 == 0 || a % 4 == 3)) ||
    (0x80 ≤ a && a ≤ 0xBF && a % 16 ≤ 3) || (0xC0 ≤ a && a ≤ 0xC2)

/-- A command is well formed when its operands name something of its own row: REGISTER_WRITE an address without a row of
its own (R191), UNKNOWN_COMMAND a code that names no command (R192), TIME_COUNTER_TICK at least one microsecond (R43). -/
def Instr.wellFormed : Instr → Bool
  | .registerWrite addr _ => !writesOwnRow addr
  | .unknownCommand code _ => !commandCodes.contains code
  | .timeCounterTick micros => 0 < micros
  | .frame .. | .frameCutShort .. | .loadSlot .. | .loadWatch .. | .commit .. | .stagingFieldWrite ..
  | .trigger .. | .sampleCompletion .. | .deadlineExpiry .. | .abort .. | .restartConverter ..
  | .clearSlotStats .. | .timeLoRead .. | .periodicExpiry .. | .trgEdge .. | .pwmTriggerPoint ..
  | .capturePop .. | .captureFlush .. | .capCtrlWrite .. | .resultSelWrite .. | .queueEntryRead ..
  | .engineJobRead .. | .faultInfoRead .. | .ack .. | .arm .. | .disarm .. | .triplogClear ..
  | .triplogSelWrite .. | .swOn .. | .swOff .. | .swClear .. | .softStartExpiry .. | .refillExpiry ..
  | .retryExpiry .. | .currentLimit .. | .swCfgWrite .. | .swTripsWrite .. | .pwmPeriodStart ..
  | .pwmDutyEnd .. | .pwmCtrlWrite .. | .pwmConfigWrite .. | .irqPulseExpiry .. | .evtLatchWrite ..
  | .evtEnableWrite .. | .irqCtrlWrite .. | .guardEnter .. | .guardExit .. | .softReset .. | .powerOnReset ..
  | .resetnReset .. | .resetEnd .. | .resetCauseRead .. | .csnRise .. => true

end Sys2Proof
end

