-- ==== Sys2Proof/Decode.lean ====
section
/-! DEFINITION. The decoder over the rows of the table that give bits. No row of this table does, so no word spells a
command: commands reach the part as events, and host accesses as 32-bit frames, which Machine/Port.lean takes apart. -/

namespace Sys2Proof

/-- The command a table word spells: none, since no row of opcode_table.json gives bits (98: "n_rows_with_fixed": 0). -/
def decodeTableWord (_nbits _w : Nat) : Option Instr := none

end Sys2Proof
end

