-- ==== Sys2Proof/Config.lean ====
section
/-! DEFINITION. What is fixed for the part (sizes, lengths) and the free values: orders the rules leave open. -/

namespace Sys2Proof.Config

/-- The capture FIFO holds at most 64 entries (R83). -/
def fifoSize : Nat := 64

/-- The trip log holds at most 16 entries (R122). -/
def tripLogSize : Nat := 16

/-- The longest line of slots an installed table may hold (R14). -/
def longestLine : Nat := 5

/-- The deadline falls 20 µs after the sample's nominal length (R63). -/
def deadlineMargin : Nat := 20

/-- The refill timer's length, 1000 ms in µs (R134). -/
def refillMicros : Nat := 1000000

/-- The IRQ pulse timer's length in µs (R168). -/
def pulseMicros : Nat := 2

/-- The 50 ns units of one microsecond (00 section 5): how far a PWM position moves in it (R151). -/
def unitsPerMicro : Nat := 20

/-- FREE VALUE: whether the snapshot request of a waking trip is taken before its GUARD exit. R111: "Either may be taken
first". The argument is the state's counter of such choices (log 12). -/
opaque snapshotFirst : Nat → Bool

/-- FREE VALUE: which of several occurrences that a GUARD exit releases at once is taken next. R45: "When two come
together, either may be taken first". The argument is the state's counter of such choices (log 13). -/
opaque exitPick : Nat → Nat

end Sys2Proof.Config
end

