-- ==== Sys2Proof/Machine/State.lean ====
section
/-! DEFINITION. The state of the part, block by block (00 section 2), as plain data, and its value right after reset. -/

namespace Sys2Proof.Machine

/-! ## Why a step can stop -/

/-- The reasons the machine stops with a fault: none. The spec names no command and no event that stops the part (a rejected
frame, a refused command and a converter fault are states it goes on from), so nothing raises one. -/
inductive Fault
  deriving DecidableEq, Repr

/-- The reasons a command has no meaning. -/
inductive Refusal where
  /-- Raised by an arm of exec whose command has no meaning yet; safe. No arm raises it. -/
  | notModelled (mnemonic : String)
  deriving DecidableEq, Repr

/-! ## Slot table (R1 to R5) -/

inductive PClass where
  | urgent | normal
  deriving DecidableEq, Repr

inductive Resolution where
  | bits10 | bits12
  deriving DecidableEq, Repr

/-- The averaging counts an installed record can hold (R1). -/
inductive Averaging where
  | x1 | x2 | x4 | x8 | x16
  deriving DecidableEq, Repr

inductive Edge where
  | rising | falling | both
  deriving DecidableEq, Repr

/-- The trigger kind of an installed record with exactly the parameters the kind has (R2). -/
inductive Trigger where
  | hostOnly
  | periodic (period phase : Word)
  | follow (leader : SlotIx)
  | pin (pin : TrgPin) (edge : Edge)
  | pwm (channel : ChIx) (decimation : BitVec 5)
  deriving DecidableEq, Repr

/-- A slot's configuration record (R1). -/
structure SlotRecord where
  enabled : Bool
  input   : Fin 24
  acq     : BitVec 3
  res     : Resolution
  avg     : Averaging
  cls     : PClass
  trigger : Trigger
  capture : Bool
  guard   : Bool
  deriving DecidableEq, Repr

/-- How a slot's most recent job ended (R4). -/
inductive LastOutcome where
  | none | stored | invalid | stale | aborted
  deriving DecidableEq, Repr

/-- The two quantities of a slot's runtime that belong to the slot (R4). -/
structure SlotRuntime where
  overrun : Nat
  outcome : LastOutcome
  deriving DecidableEq, Repr

structure SlotTable where
  records : Vector SlotRecord 32
  runtime : Vector SlotRuntime 32
  deriving DecidableEq, Repr

/-! ## Watch rules (R96 to R98) -/

/-- The kind of an installed rule, with source B or T2 where the kind has it (R97). -/
inductive WatchKind where
  | above | below
  | outside (t2 : Code12)
  | inside (t2 : Code12)
  | diffAbove (b : SlotIx)
  | step
  deriving DecidableEq, Repr

/-- A watch rule's configuration record (R96). -/
structure WatchRecord where
  kind      : WatchKind
  srcA      : SlotIx
  t1        : BitVec 13
  h         : BitVec 10
  confirm   : BitVec 4
  release   : BitVec 4
  latching  : Bool
  failSafe  : Bool
  wake      : Bool
  irq       : Bool
  fault     : Bool
  pinned    : Bool
  openMask  : BitVec 4
  forceMask : BitVec 4
  cap       : Option (ChIx × Word)
  snapshot  : Option SlotIx
  deriving DecidableEq, Repr

/-- The states of the rule state machine (R109). -/
inductive RuleState where
  | disarmed | clear | pending | tripped | releasing | latched
  deriving DecidableEq, Repr

/-- A rule's runtime (R98). -/
structure RuleRuntime where
  state    : RuleState
  run      : Nat
  ackAhead : Bool
  previous : Option Code12
  trips    : Nat
  lastTrip : Option Time
  deriving DecidableEq, Repr

structure WatchUnit where
  records : Vector WatchRecord 16
  runtime : Vector RuleRuntime 16
  deriving DecidableEq, Repr

/-- An entry of the trip log (R122); `b` holds B value and B unusable, present for DIFF_ABOVE. -/
structure TripEntry where
  rule     : RuleIx
  aSlot    : SlotIx
  aValue   : Code12
  aInvalid : Bool
  b        : Option (Code12 × Bool)
  time     : Time
  overflow : Nat
  deriving DecidableEq, Repr

/-- The trip log with its selector and readout capture (R122, R124); `none` is the empty marker. -/
structure TripLog where
  entries : List TripEntry
  sel     : Fin 16
  readout : Option TripEntry
  deriving DecidableEq, Repr

/-! ## Staging buffer (R6) -/

inductive StagingState where
  | empty | loaded
  deriving DecidableEq, Repr

inductive Target where
  | slot (n : SlotIx)
  | watch (n : RuleIx)
  deriving DecidableEq, Repr

inductive TriggerKind where
  | hostOnly | periodic | follow | pin | pwm
  deriving DecidableEq, Repr

/-- The slot field group: every field of R1 and every parameter of R2 at once, over the widths of 11.6.2 (R6, R7). -/
structure SlotFields where
  enabled    : Bool
  input      : BitVec 6
  acq        : BitVec 3
  res        : Resolution
  avg        : BitVec 5
  cls        : PClass
  kind       : TriggerKind
  period     : Word
  phase      : Word
  leader     : SlotIx
  pin        : TrgPin
  edge       : Edge
  channel    : ChIx
  decimation : BitVec 5
  capture    : Bool
  guard      : Bool
  deriving DecidableEq, Repr

inductive WatchKindCode where
  | above | below | outside | inside | diffAbove | step
  deriving DecidableEq, Repr

/-- The watch field group over the widths of R97 and 11.6.2. -/
structure WatchFields where
  kind       : WatchKindCode
  srcA       : BitVec 6
  srcB       : BitVec 6
  bPresent   : Bool
  t1         : BitVec 13
  t2         : Code12
  h          : BitVec 10
  confirm    : BitVec 4
  release    : BitVec 4
  latching   : Bool
  failSafe   : Bool
  wake       : Bool
  irq        : Bool
  fault      : Bool
  pinned     : Bool
  openMask   : BitVec 4
  forceMask  : BitVec 4
  capPresent : Bool
  capChannel : BitVec 3
  capValue   : Word
  snapPresent : Bool
  snapSlot   : BitVec 6
  deriving DecidableEq, Repr

inductive QueueStatus where
  | notQueued | queued | suspended
  deriving DecidableEq, Repr

inductive JobStatus where
  | none | active | withdrawn
  deriving DecidableEq, Repr

/-- The slot runtime snapshot (R5, R6). -/
structure SlotSnapshot where
  overrun : Nat
  outcome : LastOutcome
  queue   : QueueStatus
  job     : JobStatus
  deriving DecidableEq, Repr

structure Staging where
  state     : StagingState
  target    : Target
  slot      : SlotFields
  watch     : WatchFields
  slotSnap  : SlotSnapshot
  watchSnap : RuleRuntime
  deriving DecidableEq, Repr

/-! ## Trigger sources and time base (R43 to R59) -/

inductive CountdownState where
  | stopped | running | frozen
  deriving DecidableEq, Repr

/-- A periodic countdown (R46). `left` is the remaining time in µs, ten to the spec's unit. -/
structure Countdown where
  state : CountdownState
  left  : Nat
  deriving DecidableEq, Repr

/-- A value for each of TRG0 and TRG1. -/
structure PinPair where
  trg0 : Level
  trg1 : Level
  deriving DecidableEq, Repr

/-- The trigger sources. `pinLevel` is the level that stands on the pins, `pinRef` the reference of the detectors (R51). -/
structure TriggerSources where
  time        : Time
  timeCapture : Time
  countdowns  : Vector Countdown 32
  decims      : Vector Nat 32
  pinLevel    : PinPair
  pinRef      : PinPair
  deriving DecidableEq, Repr

/-! ## Request queue (R21, R22, R38) -/

inductive Origin where
  | periodic | pin | pwm | follow | host | snapshot
  deriving DecidableEq, Repr

/-- The resume context of a suspended entry (R21). -/
structure Context where
  done    : Nat
  sum     : Nat
  clipped : Bool
  first   : Time
  deriving DecidableEq, Repr

/-- A queue entry (R21). -/
structure Entry where
  slot   : SlotIx
  cls    : PClass
  origin : Origin
  enq    : Time
  ctx    : Option Context
  deriving DecidableEq, Repr

/-- The two sub-lists, head first, with QUEUE_SEL and the readout capture (R22, R38); `none` is the empty marker. -/
structure RequestQueue where
  urgent  : List Entry
  normal  : List Entry
  selList : PClass
  selPos  : Fin 32
  readout : Option Entry
  deriving DecidableEq, Repr

/-! ## Conversion engine (R60, R76) -/

/-- The engine's record of the burst it runs (R60). `sampleId` says which sample is in progress (R64). -/
structure Job where
  slot        : SlotIx
  cls         : PClass
  origin      : Origin
  enq         : Time
  input       : Fin 24
  acq         : BitVec 3
  res         : Resolution
  avg         : Averaging
  done        : Nat
  sum         : Nat
  clipped     : Bool
  first       : Time
  withdrawn   : Bool
  sampleStart : Time
  sampleId    : Nat
  deriving DecidableEq, Repr

/-- The engine's three states; a job exists exactly in BUSY (R60). -/
inductive EngineState where
  | idle
  | busy (job : Job)
  | faulted
  deriving DecidableEq, Repr

/-- The fault record (R76); `sample` is the number of the failed sample, 1–16. -/
structure FaultRecord where
  slot      : SlotIx
  input     : Fin 24
  sample    : Nat
  withdrawn : Bool
  time      : Time
  deriving DecidableEq, Repr

/-- The engine with its fault record and captures (R76); `none` is the empty record and the empty marker. `samples` counts
the samples started, from which each takes its `sampleId`. -/
structure Engine where
  state        : EngineState
  faultRecord  : Option FaultRecord
  jobReadout   : Option EngineState
  faultReadout : Option FaultRecord
  samples      : Nat
  deriving DecidableEq, Repr

/-! ## Result store and capture FIFO (R78, R82 to R84) -/

inductive ResultState where
  | absent | valid | invalid
  deriving DecidableEq, Repr

/-- A slot's result record (R78). -/
structure ResultRecord where
  state   : ResultState
  value   : Code12
  seq     : BitVec 8
  time    : Time
  samples : Nat
  clipped : Bool
  deriving DecidableEq, Repr

/-- The 32 records, RESULT_SEL and its capture with the slot it was taken from (R82). -/
structure ResultStore where
  records     : Vector ResultRecord 32
  sel         : SlotIx
  readoutSlot : SlotIx
  readout     : ResultRecord
  deriving DecidableEq, Repr

/-- A capture entry (R84). -/
structure CaptureEntry where
  slot    : SlotIx
  seq     : BitVec 8
  value   : Code12
  invalid : Bool
  clipped : Bool
  time    : Time
  gap     : Option Nat
  deriving DecidableEq, Repr

inductive FullPolicy where
  | keepOldest | keepNewest
  deriving DecidableEq, Repr

/-- The capture FIFO, head first (R83); a readout of `none` is the empty marker. -/
structure CaptureFifo where
  entries     : List CaptureEntry
  pendingLoss : Nat
  policy      : FullPolicy
  watermark   : Nat
  readout     : Option CaptureEntry
  deriving DecidableEq, Repr

/-! ## Load switches (R127, R128) -/

inductive RestorePolicy where
  | manual | auto
  deriving DecidableEq, Repr

/-- A switch's configuration record (R127). -/
structure SwitchConfig where
  softStart    : BitVec 2
  retryDelay   : BitVec 8
  retryMax     : BitVec 3
  restore      : RestorePolicy
  lockoutFault : Bool
  deriving DecidableEq, Repr

inductive SwitchState where
  | off | softstart | on | held | ilimWait | lockout
  deriving DecidableEq, Repr

inductive TimerKind where
  | softStart | refill | retry
  deriving DecidableEq, Repr

/-- A running switch timer and its remaining time in µs (R128, R133 to R135). -/
structure SwitchTimer where
  kind : TimerKind
  left : Nat
  deriving DecidableEq, Repr

/-- A load switch (R127, R128). `holds` is the hold set, one bit a rule, as SW_HOLDn shows it. -/
structure Switch where
  cfg     : SwitchConfig
  state   : SwitchState
  demand  : Bool
  holds   : BitVec 16
  retries : Nat
  trips   : Nat
  timer   : Option SwitchTimer
  deriving DecidableEq, Repr

/-! ## PWM channels (R148, R149) -/

inductive PwmPolarity where
  | activeHigh | activeLow
  deriving DecidableEq, Repr

/-- A channel's configuration record; period, duty and trigger point are pending values (R148). -/
structure ChannelConfig where
  enable   : Bool
  polarity : PwmPolarity
  period   : Word
  duty     : Word
  trig     : Word
  deriving DecidableEq, Repr

/-- A PWM channel (R148, R149). `period`, `trig` and `duty` are the applied values, `forces` the force set, one bit a rule,
as PWM_FORCEn shows it. `trigDone` says that this period's trigger-point event has been taken (R159). `owed` is the time, in
50 ns units, that has passed and that the position has not yet taken up, because an event of the channel stands before it
(log 5). -/
structure Channel where
  cfg      : ChannelConfig
  running  : Bool
  position : Nat
  period   : Word
  trig     : Word
  duty     : Word
  caps     : List (RuleIx × Word)
  forces   : BitVec 16
  trigDone : Bool
  owed     : Nat
  deriving DecidableEq, Repr

/-! ## Event unit (R162) -/

inductive IrqMode where
  | level | pulse
  deriving DecidableEq, Repr

inductive IrqPolarity where
  | activeLow | activeHigh
  deriving DecidableEq, Repr

/-- The event unit (R162). Latches and enables stand by index (9.2); `pulse` is `none` for IDLE, else the remaining µs. -/
structure EventUnit where
  latches     : BitVec 12
  enables     : BitVec 12
  irqMode     : IrqMode
  irqPolarity : IrqPolarity
  pulse       : Option Nat
  fault       : Bool
  deriving DecidableEq, Repr

/-! ## Mode control (R175) -/

inductive Mode where
  | active | guard
  deriving DecidableEq, Repr

inductive ExitCause where
  | none
  | host
  | wake (rule : RuleIx)
  deriving DecidableEq, Repr

/-- Mode control (R175). `stretch` is the code of GUARD_CTRL (R176). -/
structure ModeControl where
  mode     : Mode
  stretch  : BitVec 2
  lastExit : ExitCause
  deriving DecidableEq, Repr

/-! ## Host port (R186 to R195) -/

inductive ResetCause where
  | por | pin | soft
  deriving DecidableEq, Repr

/-- The response the port keeps (R188); its check is computed when it is shifted out. -/
structure Response where
  rej  : Bool
  rst  : Bool
  irq  : Bool
  flt  : Bool
  addr : Byte
  data : Word
  deriving DecidableEq, Repr

/-- What SDO has carried in the last select that began a frame: the first `bits` bits of `word`, bit 31 first (R188). -/
structure Shifted where
  word : BitVec 32
  bits : Nat
  deriving DecidableEq, Repr

/-- The host port. `selected`: CSN is low, so bits clocked are ignored until it rises (R186, R187). `inReset`: a reset is in
progress (R187). `cmdCode` and `cmdResult` are the halves of CMD_RESULT (R193). -/
structure HostPort where
  response        : Response
  cmdCode         : Byte
  cmdResult       : Byte
  resetCause      : ResetCause
  resetIndication : Bool
  selected        : Bool
  inReset         : Bool
  shifted         : Shifted
  deriving DecidableEq, Repr

end Sys2Proof.Machine

namespace Sys2Proof.Machine

/-- The part. `choices` counts the orders taken from a free value; `pending` is the queue of commands waiting, first in
first out. -/
structure State where
  slots    : SlotTable
  staging  : Staging
  triggers : TriggerSources
  queue    : RequestQueue
  engine   : Engine
  results  : ResultStore
  fifo     : CaptureFifo
  watch    : WatchUnit
  tripLog  : TripLog
  switches : Vector Switch 4
  pwm      : Vector Channel 4
  events   : EventUnit
  mode     : ModeControl
  port     : HostPort
  choices  : Nat
  pending  : List Instr
  deriving DecidableEq, Repr

/-! ## The values of a reset -/

/-- R3. -/
def SlotRecord.reset : SlotRecord where
  enabled := false
  input := 0
  acq := 0
  res := .bits12
  avg := .x1
  cls := .normal
  trigger := .hostOnly
  capture := false
  guard := false

/-- R4. -/
def SlotRuntime.reset : SlotRuntime := ⟨0, .none⟩

/-- R97. -/
def WatchRecord.reset : WatchRecord where
  kind := .above
  srcA := 0
  t1 := 0
  h := 0
  confirm := 1
  release := 1
  latching := false
  failSafe := false
  wake := false
  irq := false
  fault := false
  pinned := false
  openMask := 0
  forceMask := 0
  cap := none
  snapshot := none

/-- R98. -/
def RuleRuntime.reset : RuleRuntime where
  state := .disarmed
  run := 0
  ackAhead := false
  previous := none
  trips := 0
  lastTrip := none

/-- The slot reset record with every parameter 0 (R6). -/
def SlotFields.reset : SlotFields where
  enabled := false
  input := 0
  acq := 0
  res := .bits12
  avg := 1
  cls := .normal
  kind := .hostOnly
  period := 0
  phase := 0
  leader := 0
  pin := .trg0
  edge := .rising
  channel := 0
  decimation := 0
  capture := false
  guard := false

/-- The watch reset record (R6, R97). -/
def WatchFields.reset : WatchFields where
  kind := .above
  srcA := 0
  srcB := 0
  bPresent := false
  t1 := 0
  t2 := 0
  h := 0
  confirm := 1
  release := 1
  latching := false
  failSafe := false
  wake := false
  irq := false
  fault := false
  pinned := false
  openMask := 0
  forceMask := 0
  capPresent := false
  capChannel := 0
  capValue := 0
  snapPresent := false
  snapSlot := 0

/-- R6. -/
def Staging.reset : Staging where
  state := .empty
  target := .slot 0
  slot := .reset
  watch := .reset
  slotSnap := ⟨0, .none, .notQueued, .none⟩
  watchSnap := .reset

/-- R46. -/
def Countdown.reset : Countdown := ⟨.stopped, 0⟩

/-- R43, R44, R46, R53; the detectors take the levels that stand on the pins (R51, R59). -/
def TriggerSources.reset (pins : PinPair) : TriggerSources where
  time := 0
  timeCapture := 0
  countdowns := Vector.replicate 32 .reset
  decims := Vector.replicate 32 0
  pinLevel := pins
  pinRef := pins

/-- R41, R38. -/
def RequestQueue.reset : RequestQueue where
  urgent := []
  normal := []
  selList := .urgent
  selPos := 0
  readout := none

/-- R61, R76; the numbering of samples goes on, so that no completion of a sample cut off by a reset is taken (R64). -/
def Engine.reset (samples : Nat) : Engine where
  state := .idle
  faultRecord := none
  jobReadout := none
  faultReadout := none
  samples := samples

/-- R79. -/
def ResultRecord.reset : ResultRecord where
  state := .absent
  value := 0
  seq := 0
  time := 0
  samples := 0
  clipped := false

/-- R79, R82. -/
def ResultStore.reset : ResultStore where
  records := Vector.replicate 32 .reset
  sel := 0
  readoutSlot := 0
  readout := .reset

/-- R83. -/
def CaptureFifo.reset : CaptureFifo where
  entries := []
  pendingLoss := 0
  policy := .keepOldest
  watermark := 32
  readout := none

/-- R122, R124. -/
def TripLog.reset : TripLog where
  entries := []
  sel := 0
  readout := none

/-- R129. -/
def Switch.reset : Switch where
  cfg := { softStart := 2, retryDelay := 100, retryMax := 3, restore := .manual, lockoutFault := false }
  state := .off
  demand := false
  holds := 0
  retries := 3
  trips := 0
  timer := none

/-- R150. -/
def Channel.reset : Channel where
  cfg := { enable := false, polarity := .activeHigh, period := 2, duty := 0, trig := 0 }
  running := false
  position := 0
  period := 2
  trig := 0
  duty := 0
  caps := []
  forces := 0
  trigDone := false
  owed := 0

/-- R162. -/
def EventUnit.reset : EventUnit where
  latches := 0
  enables := 0
  irqMode := .level
  irqPolarity := .activeLow
  pulse := none
  fault := false

/-- R175; code 0 is the factor 1 (R176). -/
def ModeControl.reset : ModeControl where
  mode := .active
  stretch := 0
  lastExit := .none

/-- R188: "the response holds REJ clear, RST set, IRQ and FLT clear, address 00h and data 0000h". -/
def Response.reset : Response where
  rej := false
  rst := true
  irq := false
  flt := false
  addr := 0
  data := 0

/-- R188, R193, R195; `selected` and `inReset` as the reset finds and makes them. -/
def HostPort.reset (cause : ResetCause) (selected inReset : Bool) : HostPort where
  response := .reset
  cmdCode := 0
  cmdResult := 0
  resetCause := cause
  resetIndication := true
  selected := selected
  inReset := inReset
  shifted := ⟨0, 0⟩

/-- The part right after a power-on reset has ended, with TRG0 and TRG1 low, CSN high and no command waiting (log 14). -/
def State.reset : State where
  slots := ⟨Vector.replicate 32 .reset, Vector.replicate 32 .reset⟩
  staging := .reset
  triggers := .reset ⟨.low, .low⟩
  queue := .reset
  engine := .reset 0
  results := .reset
  fifo := .reset
  watch := ⟨Vector.replicate 16 .reset, Vector.replicate 16 .reset⟩
  tripLog := .reset
  switches := Vector.replicate 4 .reset
  pwm := Vector.replicate 4 .reset
  events := .reset
  mode := .reset
  port := .reset .por false false
  choices := 0
  pending := []

end Sys2Proof.Machine
end

