-- ==== Sys2Proof/Machine/Ops.lean ====
section
/-! DEFINITION. Named reads and writes of the state's rows, one block each. -/

namespace Sys2Proof.Machine

/-- What a step answers. -/
abbrev Out := Host.Outcome State Fault Refusal

namespace State

/-- The time counter (R43). -/
def now (s : State) : Time := s.triggers.time

/-- Slot `n`'s installed record (R1). -/
def record (s : State) (n : SlotIx) : SlotRecord := s.slots.records[n]

def slotRt (s : State) (n : SlotIx) : SlotRuntime := s.slots.runtime[n]

/-- Rule `n`'s installed record and runtime (R96, R98). -/
def rule (s : State) (n : RuleIx) : WatchRecord := s.watch.records[n]

def ruleRt (s : State) (n : RuleIx) : RuleRuntime := s.watch.runtime[n]

def countdown (s : State) (n : SlotIx) : Countdown := s.triggers.countdowns[n]

def decim (s : State) (n : SlotIx) : Nat := s.triggers.decims[n]

def result (s : State) (n : SlotIx) : ResultRecord := s.results.records[n]

def switch (s : State) (n : SwIx) : Switch := s.switches[n]

def channel (s : State) (c : ChIx) : Channel := s.pwm[c]

def setRecord (s : State) (n : SlotIx) (r : SlotRecord) : State :=
  { s with slots := { s.slots with records := s.slots.records.set n r } }

def setSlotRt (s : State) (n : SlotIx) (r : SlotRuntime) : State :=
  { s with slots := { s.slots with runtime := s.slots.runtime.set n r } }

def setRule (s : State) (n : RuleIx) (r : WatchRecord) : State :=
  { s with watch := { s.watch with records := s.watch.records.set n r } }

def setRuleRt (s : State) (n : RuleIx) (r : RuleRuntime) : State :=
  { s with watch := { s.watch with runtime := s.watch.runtime.set n r } }

def setCountdown (s : State) (n : SlotIx) (c : Countdown) : State :=
  { s with triggers := { s.triggers with countdowns := s.triggers.countdowns.set n c } }

def setDecim (s : State) (n : SlotIx) (k : Nat) : State :=
  { s with triggers := { s.triggers with decims := s.triggers.decims.set n k } }

def setResult (s : State) (n : SlotIx) (r : ResultRecord) : State :=
  { s with results := { s.results with records := s.results.records.set n r } }

def setSwitch (s : State) (n : SwIx) (w : Switch) : State :=
  { s with switches := s.switches.set n w }

def setChannel (s : State) (c : ChIx) (x : Channel) : State :=
  { s with pwm := s.pwm.set c x }

def setEngine (s : State) (e : EngineState) : State :=
  { s with engine := { s.engine with state := e } }

def setSublists (s : State) (urgent normal : List Entry) : State :=
  { s with queue := { s.queue with urgent := urgent, normal := normal } }

def setStaging (s : State) (g : Staging) : State := { s with staging := g }

def setFifo (s : State) (f : CaptureFifo) : State := { s with fifo := f }

def setTripLog (s : State) (l : TripLog) : State := { s with tripLog := l }

def setEvents (s : State) (e : EventUnit) : State := { s with events := e }

def setPort (s : State) (p : HostPort) : State := { s with port := p }

/-- The last outcome of slot `n` (R77). -/
def setOutcome (s : State) (n : SlotIx) (o : LastOutcome) : State :=
  s.setSlotRt n { s.slotRt n with outcome := o }

/-- One order taken from a free value has been used (log 12, log 13). -/
def useChoice (s : State) : State := { s with choices := s.choices + 1 }

end State

/-- The set holding rule `r` alone, as a register shows it: one bit a rule. -/
def ruleBit (r : RuleIx) : BitVec 16 := BitVec.twoPow 16 r

/-- A rule is active while it is TRIPPED, RELEASING or LATCHED (R96). -/
def RuleState.active : RuleState → Bool
  | .tripped | .releasing | .latched => true
  | .disarmed | .clear | .pending => false

/-- The number of samples of a burst (R1). -/
def Averaging.count : Averaging → Nat
  | .x1 => 1
  | .x2 => 2
  | .x4 => 4
  | .x8 => 8
  | .x16 => 16

end Sys2Proof.Machine
end

