-- ==== Sys2Proof/Machine/Flags.lean ====
section
/-! DEFINITION. Event latches, the IRQ condition, FAULT, and the output pins (chapters 7 to 9). -/

namespace Sys2Proof.Machine

/-- The twelve event kinds (9.2). -/
inductive EventKind where
  | watchTrip | watchRelease | switchIlim | switchLockout | slotOverrun | captureLevel
  | captureLoss | converterFault | commandRefused | frameRejected | guardLeft | triplogFull
  deriving DecidableEq, Repr

/-- The index of a kind in EVT_LATCH and EVT_ENABLE (9.2). -/
def EventKind.index : EventKind → Nat
  | .watchTrip => 0
  | .watchRelease => 1
  | .switchIlim => 2
  | .switchLockout => 3
  | .slotOverrun => 4
  | .captureLevel => 5
  | .captureLoss => 6
  | .converterFault => 7
  | .commandRefused => 8
  | .frameRejected => 9
  | .guardLeft => 10
  | .triplogFull => 11

def EventKind.mask (k : EventKind) : BitVec 12 := BitVec.twoPow 12 k.index

/-- R168: a pulse starts if the pulse is IDLE; one in progress is neither restarted nor lengthened. -/
def EventUnit.startPulse (e : EventUnit) : EventUnit :=
  match e.pulse with
  | none => { e with pulse := some Config.pulseMicros }
  | some _ => e

/-- An occurrence of kind `k`: its latch is set whatever the enables and the mode (R163), and in PULSE mode an enabled kind
starts a pulse (R168). -/
def EventUnit.occur (e : EventUnit) (k : EventKind) : EventUnit :=
  let latched := { e with latches := e.latches ||| k.mask }
  if e.irqMode = .pulse ∧ e.enables.getLsbD k.index then latched.startPulse else latched

/-- The logical IRQ condition: in LEVEL mode some kind has latch and enable set (R167), in PULSE mode a pulse is in
progress (R168). -/
def EventUnit.irq (e : EventUnit) : Bool :=
  match e.irqMode with
  | .level => e.latches &&& e.enables != 0
  | .pulse => e.pulse.isSome

/-- R164: each latch written with a one is cleared; positions beyond the twelve are ignored. -/
def EventUnit.clearLatches (e : EventUnit) (d : Word) : EventUnit :=
  { e with latches := e.latches &&& ~~~(field d 0 12) }

/-- R165: the enables are replaced; in PULSE mode newly enabled kinds of which one is latched start one pulse. -/
def EventUnit.writeEnables (e : EventUnit) (d : Word) : EventUnit :=
  let new := field d 0 12
  let fresh := new &&& ~~~e.enables
  let written := { e with enables := new }
  if e.irqMode = .pulse ∧ fresh &&& e.latches ≠ 0 then written.startPulse else written

/-- R166: bit 1 is the polarity, bit 0 the mode; a change of mode ends a pulse and starts none. -/
def EventUnit.writeCtrl (e : EventUnit) (d : Word) : EventUnit :=
  let mode : IrqMode := if d.getLsbD 0 then .pulse else .level
  { e with
    irqMode := mode
    irqPolarity := if d.getLsbD 1 then .activeHigh else .activeLow
    pulse := if mode = e.irqMode then e.pulse else none }

/-- R169: at the expiry of the pulse timer the pulse becomes IDLE. -/
def EventUnit.pulseExpiry (e : EventUnit) : EventUnit :=
  if e.pulse = some 0 then { e with pulse := none } else e

namespace State

def occur (s : State) (k : EventKind) : State := s.setEvents (s.events.occur k)

/-- An occurrence that comes about only on a condition. -/
def occurIf (s : State) (c : Bool) (k : EventKind) : State := if c then s.occur k else s

/-- Rule `n` is a cause of FAULT: active with the fault attribute (R171). -/
def ruleFaults (s : State) (n : RuleIx) : Bool := (s.ruleRt n).state.active && (s.rule n).fault

/-- Switch `n` is a cause of FAULT: in LOCKOUT with the lockout-fault attribute (R171). -/
def switchFaults (s : State) (n : SwIx) : Bool :=
  (s.switch n).state == .lockout && (s.switch n).cfg.lockoutFault

/-- The condition FAULT follows (R171). -/
def faultCondition (s : State) : Bool :=
  (List.finRange 16).any s.ruleFaults || (List.finRange 4).any s.switchFaults

/-- FAULT_UPDATE (R171): taken at each change of one of the condition's inputs. -/
def faultUpdate (s : State) : State := s.setEvents { s.events with fault := s.faultCondition }

/-! ## Output pins -/

/-- R128: "A load switch output is energized only in SOFTSTART or ON." -/
def swOut (s : State) (n : SwIx) : Bool :=
  match (s.switch n).state with
  | .softstart | .on => true
  | .off | .held | .ilimWait | .lockout => false

/-- R166: the IRQ pin, high or low, from the condition and the polarity. -/
def irqPin (s : State) : Level :=
  match s.events.irqPolarity, s.events.irq with
  | .activeLow, false | .activeHigh, true => .high
  | .activeLow, true | .activeHigh, false => .low

/-- R170: the FAULT pin is driven low while FAULT is asserted, else released. -/
def faultPinDrivenLow (s : State) : Bool := s.events.fault

/-- R188: "SDO is driven while CSN is low and released while CSN is high." -/
def sdoDriven (s : State) : Bool := s.port.selected

end State

end Sys2Proof.Machine
end

