-- ==== Sys2Proof/Machine/Access.lean ====
section
/-! DEFINITION. What every accepted access of the host shares: command and result codes, CMD_RESULT and the response
(R188 to R193). -/

namespace Sys2Proof.Machine

/-- The 19 commands (11.6.5). -/
inductive Command where
  | loadSlot | loadWatch | commit | trigger | abort | restartConverter | clearSlotStats
  | capturePop | captureFlush | arm | disarm | ack | triplogClear | swOn | swOff | swClear
  | guardEnter | guardExit | softReset
  deriving DecidableEq, Repr

/-- The command codes (11.6.5). -/
def Command.code : Command → Byte
  | .loadSlot => 0x01
  | .loadWatch => 0x02
  | .commit => 0x03
  | .trigger => 0x10
  | .abort => 0x11
  | .restartConverter => 0x12
  | .clearSlotStats => 0x13
  | .capturePop => 0x20
  | .captureFlush => 0x21
  | .arm => 0x30
  | .disarm => 0x31
  | .ack => 0x32
  | .triplogClear => 0x33
  | .swOn => 0x40
  | .swOff => 0x41
  | .swClear => 0x42
  | .guardEnter => 0x50
  | .guardExit => 0x51
  | .softReset => 0x60

/-- The command a code names, if it names one (R192). -/
def Command.ofCode (b : Byte) : Option Command :=
  match b.toNat with
  | 0x01 => some .loadSlot
  | 0x02 => some .loadWatch
  | 0x03 => some .commit
  | 0x10 => some .trigger
  | 0x11 => some .abort
  | 0x12 => some .restartConverter
  | 0x13 => some .clearSlotStats
  | 0x20 => some .capturePop
  | 0x21 => some .captureFlush
  | 0x30 => some .arm
  | 0x31 => some .disarm
  | 0x32 => some .ack
  | 0x33 => some .triplogClear
  | 0x40 => some .swOn
  | 0x41 => some .swOff
  | 0x42 => some .swClear
  | 0x50 => some .guardEnter
  | 0x51 => some .guardExit
  | 0x60 => some .softReset
  | _ => none

/-- The result codes (R193). -/
inductive ResultCode where
  | ok | merged | already | empty
  | unknownCommand | badIndex | notEnabled | nothingStaged | invalidRecord | ruleActive | pinned | lockedOut
  | notLocked | notLatching | notLatched | nothingToAbort | notFaulted | guardActive | notInGuard | noGuardSlots
  deriving DecidableEq, Repr

/-- The numbers of the result codes (11.6.5). -/
def ResultCode.code : ResultCode → Byte
  | .ok => 0x00
  | .merged => 0x01
  | .already => 0x02
  | .empty => 0x03
  | .unknownCommand => 0x10
  | .badIndex => 0x11
  | .notEnabled => 0x12
  | .nothingStaged => 0x13
  | .invalidRecord => 0x14
  | .ruleActive => 0x15
  | .pinned => 0x16
  | .lockedOut => 0x17
  | .notLocked => 0x18
  | .notLatching => 0x19
  | .notLatched => 0x1A
  | .nothingToAbort => 0x1B
  | .notFaulted => 0x1C
  | .guardActive => 0x1D
  | .notInGuard => 0x1E
  | .noGuardSlots => 0x1F

/-- R193: every code other than OK, MERGED, ALREADY and EMPTY is a refusal. -/
def ResultCode.isRefusal : ResultCode → Bool
  | .ok | .merged | .already | .empty => false
  | .unknownCommand | .badIndex | .notEnabled | .nothingStaged | .invalidRecord | .ruleActive | .pinned
  | .lockedOut | .notLocked | .notLatching | .notLatched | .nothingToAbort | .notFaulted | .guardActive
  | .notInGuard | .noGuardSlots => true

/-- How a command's effect ends: with a result code, or by a reset that leaves no result of its own (R193, R194). -/
inductive CommandEnd where
  | result (s : State) (r : ResultCode)
  | reset (s : State)

namespace State

/-- R193: the command's code and result code replace CMD_RESULT, and a refusal latches COMMAND_REFUSED. -/
def endCommand (s : State) (code : Byte) (r : ResultCode) : State :=
  let t := s.occurIf r.isRefusal .commandRefused
  t.setPort { t.port with cmdCode := code, cmdResult := r.code }

/-- R188, R189: the response to an accepted frame, formed after the frame's own effect. -/
def respond (s : State) (addr : Byte) (data : Word) : State :=
  s.setPort { s.port with
    response :=
      { rej := false, rst := s.port.resetIndication, irq := s.events.irq, flt := s.events.fault, addr := addr, data := data } }

/-- R188: the response to a rejected frame carries REJ, address 00h and data 0000h. -/
def respondRejected (s : State) : State :=
  s.setPort { s.port with
    response :=
      { rej := true, rst := s.port.resetIndication, irq := s.events.irq, flt := s.events.fault, addr := 0, data := 0 } }

/-- An accepted write of COMMAND (R192): the effect is taken whole, then CMD_RESULT, then the response, whose data is the
data written (R191). After a SOFT_RESET that is taken the response is the reset response (R194). -/
def takeCommand (s : State) (code arg : Byte) (effect : State → CommandEnd) : State :=
  match effect s with
  | .result t r => (t.endCommand code r).respond 0x01 (code ++ arg)
  | .reset t => t

/-- An accepted write of a writable register: its effect, then the response with the data written (R191). -/
def takeWrite (s : State) (addr : Byte) (data : Word) (effect : State → State) : State :=
  (effect s).respond addr data

/-- An accepted read: the capture or other effect its rule states, then the response with the value (R190). -/
def takeRead (s : State) (addr : Byte) (effect : State → State) (value : State → Word) : State :=
  (effect s).respond addr (value (effect s))

/-- R187: while a reset is in progress the port takes no frame, so no access is taken. -/
def hostAccess (s : State) (access : State → State) : State :=
  if s.port.inReset then s else access s

/-- A command row: the accepted frame that writes COMMAND with that code and argument. -/
def hostCommand (s : State) (c : Command) (arg : Byte) (effect : State → CommandEnd) : State :=
  s.hostAccess fun t => t.takeCommand c.code arg effect

/-- A write row: the accepted frame that writes the register at `addr`. -/
def hostWrite (s : State) (addr : Byte) (data : Word) (effect : State → State) : State :=
  s.hostAccess fun t => t.takeWrite addr data effect

/-- A read row: the accepted frame that reads the register at `addr`. -/
def hostRead (s : State) (addr : Byte) (effect : State → State) (value : State → Word) : State :=
  s.hostAccess fun t => t.takeRead addr effect value

end State

/-- The effect of a command whose argument is an index below `bound`: BAD_INDEX beyond it (R192). -/
def withIndex (bound : Nat) (arg : Byte) (s : State) (f : Fin bound → CommandEnd) : CommandEnd :=
  if h : arg.toNat < bound then f ⟨arg.toNat, h⟩ else .result s .badIndex

end Sys2Proof.Machine
end

