-- ==== Sys2Proof/Machine/Arbiter.lean ====
section
/-! DEFINITION. The request queue and the arbiter (chapter 2): enqueue, merge, withdrawal, grant, suspension; the queue's
readout and CLEAR_SLOT_STATS. -/

namespace Sys2Proof.Machine

/-- The queue holds an entry for slot `n` (R22). -/
def RequestQueue.holds (q : RequestQueue) (n : SlotIx) : Bool :=
  (q.urgent ++ q.normal).any fun e => e.slot == n

/-- R23: a new entry joins the tail of the sub-list of its class. -/
def RequestQueue.enqueue (q : RequestQueue) (e : Entry) : RequestQueue :=
  match e.cls with
  | .urgent => { q with urgent := q.urgent ++ [e] }
  | .normal => { q with normal := q.normal ++ [e] }

/-- R27: the entries that fail `keep` leave; the others keep their order. -/
def RequestQueue.withdraw (q : RequestQueue) (keep : Entry → Bool) : RequestQueue :=
  { q with urgent := q.urgent.filter keep, normal := q.normal.filter keep }

/-- R31, R32: the job formed from a granted entry and a snapshot of its slot's installed record; an entry with a resume
context goes on from it. The sample fields are set as the sample starts. -/
def Entry.toJob (e : Entry) (r : SlotRecord) (now : Time) : Job where
  slot := e.slot
  cls := e.cls
  origin := e.origin
  enq := e.enq
  input := r.input
  acq := r.acq
  res := r.res
  avg := r.avg
  done := (e.ctx.map Context.done).getD 0
  sum := (e.ctx.map Context.sum).getD 0
  clipped := (e.ctx.map Context.clipped).getD false
  first := (e.ctx.map Context.first).getD now
  withdrawn := false
  sampleStart := now
  sampleId := 0

/-- R33: the entry a suspended job is given back as. -/
def Job.toEntry (j : Job) : Entry where
  slot := j.slot
  cls := j.cls
  origin := j.origin
  enq := j.enq
  ctx := some { done := j.done, sum := j.sum, clipped := j.clipped, first := j.first }

namespace State

def setQueue (s : State) (q : RequestQueue) : State := { s with queue := q }

/-- R62, R63: the job's next sample starts now; the engine is BUSY. The sample takes a fresh number (R64). -/
def startSample (s : State) (j : Job) : State :=
  { s with engine :=
      { s.engine with
        state := .busy { j with sampleStart := s.now, sampleId := s.engine.samples }
        samples := s.engine.samples + 1 } }

/-- The hand-over of one entry to the engine (R29, R31, R62). -/
def startJob (s : State) (e : Entry) : State := s.startSample (e.toJob (s.record e.slot) s.now)

/-- R29: with the engine IDLE and an entry waiting, the head of URGENT is granted if there is one, else the head of
NORMAL. Otherwise nothing happens. -/
def grant (s : State) : State :=
  match s.engine.state with
  | .idle =>
    match s.queue.urgent, s.queue.normal with
    | e :: es, normal => (s.setSublists es normal).startJob e
    | [], e :: es => (s.setSublists [] es).startJob e
    | [], [] => s
  | .busy _ | .faulted => s

/-- An overrun of slot `n` is counted, saturating at 255, and SLOT_OVERRUN is latched, also at 255 (R24, R34). -/
def countOverrun (s : State) (n : SlotIx) : State :=
  (s.setSlotRt n { s.slotRt n with overrun := satInc 255 (s.slotRt n).overrun }).occur .slotOverrun

/-- R23: a request that finds no entry creates one, and the arbiter grants at once if the engine is IDLE (R30). -/
def enqueue (s : State) (o : Origin) (n : SlotIx) : State :=
  (s.setQueue (s.queue.enqueue
    { slot := n, cls := (s.record n).cls, origin := o, enq := s.now, ctx := none })).grant

/-- A request for slot `n` reaches the queue: a merge if an entry waits (R24), which is an overrun unless the host raised
it, else a new entry (R23). -/
def request (s : State) (o : Origin) (n : SlotIx) : State :=
  if s.queue.holds n then
    if o = .host then s else s.countOverrun n
  else s.enqueue o n

/-- R27, from both sub-lists. -/
def withdraw (s : State) (keep : Entry → Bool) : State := s.setQueue (s.queue.withdraw keep)

/-- R34: a plain entry of the suspended job's slot is merged into the entry made by suspension and counted. -/
def absorbPlain (s : State) (n : SlotIx) : State :=
  if s.queue.normal.any fun e => e.slot == n then
    (s.setSublists s.queue.urgent (s.queue.normal.filter fun e => e.slot != n)).countOverrun n
  else s

/-- R33: the job goes back as a context entry at the head of NORMAL, the engine becomes IDLE and the arbiter grants. -/
def suspend (s : State) (j : Job) : State :=
  let t := s.absorbPlain j.slot
  ((t.setSublists t.queue.urgent (j.toEntry :: t.queue.normal)).setEngine .idle).grant

/-! ## Readout -/

/-- The entry at QUEUE_SEL's position, if there is one (R38). -/
def selectedEntry (s : State) : Option Entry :=
  match s.queue.selList with
  | .urgent => s.queue.urgent[s.queue.selPos.val]?
  | .normal => s.queue.normal[s.queue.selPos.val]?

/-- R38: a read of QUEUE_ENTRY captures the entry, or the empty marker. -/
def captureEntry (s : State) : State := s.setQueue { s.queue with readout := s.selectedEntry }

/-- R38: a write of QUEUE_SEL changes the selection and does not capture. Sub-list in bit 8, position in bits 4–0. -/
def writeQueueSel (s : State) (d : Word) : State :=
  s.setQueue { s.queue with
    selList := if d.getLsbD 8 then .normal else .urgent
    selPos := (field d 0 5).toFin }

/-- R39. -/
def clearSlotStats (arg : Byte) (s : State) : CommandEnd :=
  withIndex 32 arg s fun n => .result (s.setSlotRt n { s.slotRt n with overrun := 0 }) .ok

end State

/-- CLEAR_SLOT_STATS (R39). -/
def execClearSlotStats (n : Byte) (s : State) : Out :=
  .next (s.hostCommand .clearSlotStats n (State.clearSlotStats n))

end Sys2Proof.Machine
end

