-- ==== Sys2Proof/Machine/Triggers.lean ====
section
/-! DEFINITION. The trigger sources (chapter 3): requests under R45, countdowns, edges, decimation, TRIGGER. -/

namespace Sys2Proof.Machine

/-- R176: the factor of a GUARD_CTRL code. -/
def stretchFactor (code : BitVec 2) : Nat := 4 ^ code.toNat

/-- The time of `units` of 10 µs, in µs (R46). -/
def tenMicros (units : Nat) : Nat := 10 * units

/-- A timer has run out when no time is left to it; its expiry is taken then and not before (log 3). -/
def timeIsUp (left : Nat) : Bool := left == 0

/-- R46: a RUNNING countdown loses the time that passes; one that has run out waits for its expiry. -/
def Countdown.tick (c : Countdown) (micros : Nat) : Countdown :=
  match c.state with
  | .running => { c with left := c.left - micros }
  | .stopped | .frozen => c

/-- R49: at GUARD entry a RUNNING countdown becomes FROZEN, keeping its remaining time. -/
def Countdown.freeze (c : Countdown) : Countdown :=
  match c.state with
  | .running => { c with state := .frozen }
  | .stopped | .frozen => c

/-- R49: at a GUARD exit a FROZEN countdown becomes RUNNING from the time it held. -/
def Countdown.thaw (c : Countdown) : Countdown :=
  match c.state with
  | .frozen => { c with state := .running }
  | .running | .stopped => c

def Edge.matches (e : Edge) (level : Level) : Bool :=
  match e, level with
  | .both, _ | .rising, .high | .falling, .low => true
  | .rising, .low | .falling, .high => false

def PinPair.get (p : PinPair) : TrgPin → Level
  | .trg0 => p.trg0
  | .trg1 => p.trg1

def PinPair.set (p : PinPair) (pin : TrgPin) (l : Level) : PinPair :=
  match pin with
  | .trg0 => { p with trg0 := l }
  | .trg1 => { p with trg1 := l }

namespace State

def setTriggers (s : State) (t : TriggerSources) : State := { s with triggers := t }

/-- R45: a source raises a request for slot `n` only when the slot is ENABLED and the mode is ACTIVE or the slot carries the
guard attribute. -/
def mayRaise (s : State) (n : SlotIx) : Bool :=
  (s.record n).enabled && (s.mode.mode == .active || (s.record n).guard)

/-- A source takes its event for slot `n` under R45. -/
def raise (s : State) (o : Origin) (n : SlotIx) : State :=
  if s.mayRaise n then s.request o n else s

/-- The slots for which `raises` holds are requested in ascending slot number (R45). -/
def raiseAll (s : State) (o : Origin) (raises : SlotRecord → Bool) : State :=
  (List.finRange 32).foldl (fun t n => if raises (t.record n) then t.raise o n else t) s

/-! ## Countdowns -/

/-- R48: the reload value in 10 µs units, from the installed record and the mode at the expiry. -/
def reload (s : State) (n : SlotIx) (period : Word) : Nat :=
  match s.mode.mode with
  | .active => period.toNat
  | .guard => if (s.record n).guard then period.toNat * stretchFactor s.mode.stretch else period.toNat

/-- R47: the expiry of slot `n`'s countdown: a PERIODIC request under R45, and the reload whatever became of it. -/
def expire (s : State) (n : SlotIx) : State :=
  match (s.record n).trigger with
  | .periodic period _ =>
    (s.setCountdown n ⟨.running, tenMicros (s.reload n period)⟩).raise .periodic n
  | .hostOnly | .follow _ | .pin _ _ | .pwm _ _ => s

/-- PERIODIC_EXPIRY is taken when the countdown is RUNNING and has run out (R46, R47). -/
def periodicExpiry (s : State) (n : SlotIx) : State :=
  if (s.countdown n).state = .running ∧ timeIsUp (s.countdown n).left then s.expire n else s

/-- R19, R46: installing a record restarts the slot's triggers. An ENABLED PERIODIC slot's countdown is loaded with the
phase, or requests at once and is loaded with the period; every other record stops it. The decimation counter becomes 0. -/
def restartTriggers (s : State) (n : SlotIx) : State :=
  let r := s.record n
  let t := s.setDecim n 0
  match r.enabled, r.trigger with
  | true, .periodic period phase =>
    if phase = 0 then (t.setCountdown n ⟨.running, tenMicros period.toNat⟩).raise .periodic n
    else t.setCountdown n ⟨.running, tenMicros phase.toNat⟩
  | _, _ => t.setCountdown n ⟨.stopped, 0⟩

/-! ## Edges -/

/-- R51, R52: a change of level on `pin` is an edge; the reference takes the new level and each matching PIN slot is
requested. While a reset is in progress the level changes and no edge is taken. -/
def edge (s : State) (pin : TrgPin) (level : Level) : State :=
  let t := s.setTriggers { s.triggers with pinLevel := s.triggers.pinLevel.set pin level }
  if s.port.inReset ∨ s.triggers.pinRef.get pin = level then t
  else
    (t.setTriggers { t.triggers with pinRef := t.triggers.pinRef.set pin level }).raiseAll .pin fun r =>
      match r.trigger with
      | .pin p e => p == pin && e.matches level
      | .hostOnly | .periodic _ _ | .follow _ | .pwm _ _ => false

/-! ## Decimation -/

/-- R53: slot `n` counts one trigger-point event of channel `c`, if it is an ENABLED PWM slot of that channel. -/
def countPoint (c : ChIx) (s : State) (n : SlotIx) : State :=
  match (s.record n).trigger with
  | .pwm channel decimation =>
    if (s.record n).enabled ∧ channel = c then
      if s.decim n + 1 = decimation.toNat then (s.setDecim n 0).raise .pwm n
      else s.setDecim n (s.decim n + 1)
    else s
  | .hostOnly | .periodic _ _ | .follow _ | .pin _ _ => s

/-- A trigger-point event of channel `c` handed to the trigger sources (R53, R159), in ascending slot number. -/
def triggerPoint (s : State) (c : ChIx) : State := (List.finRange 32).foldl (countPoint c) s

/-! ## Followers, TRIGGER, time -/

/-- R55: the followers of leader `n`, in ascending slot number. -/
def requestFollowers (s : State) (n : SlotIx) : State :=
  s.raiseAll .follow fun r =>
    match r.trigger with
    | .follow leader => leader == n
    | .hostOnly | .periodic _ _ | .pin _ _ | .pwm _ _ => false

/-- R57. -/
def trigger (arg : Byte) (s : State) : CommandEnd :=
  withIndex 32 arg s fun n =>
    if !(s.record n).enabled then .result s .notEnabled
    else if s.mode.mode = .guard ∧ !(s.record n).guard then .result s .guardActive
    else .result (s.request .host n) (if s.queue.holds n then .merged else .ok)

/-- R44: a read of TIME_LO captures the whole counter. -/
def captureTime (s : State) : State := s.setTriggers { s.triggers with timeCapture := s.triggers.time }

end State

/-- TIME_LO_READ (R44): returns the low half of the capture it makes. -/
def execTimeLoRead (s : State) : Out :=
  .next (s.hostRead 0x04 State.captureTime fun t => t.triggers.timeCapture.setWidth 16)

/-- PERIODIC_EXPIRY (R47). -/
def execPeriodicExpiry (n : SlotIx) (s : State) : Out := .next (s.periodicExpiry n)

/-- TRG_EDGE (R51, R52). -/
def execTrgEdge (pin : TrgPin) (level : Level) (s : State) : Out := .next (s.edge pin level)

/-- TRIGGER (R57). -/
def execTrigger (n : Byte) (s : State) : Out := .next (s.hostCommand .trigger n (State.trigger n))

end Sys2Proof.Machine
end

