-- ==== Sys2Proof/Machine/Pwm.lean ====
section
/-! DEFINITION. The PWM channels (chapter 8): periods, restraints, trigger points, the enable, and GUARD. -/

namespace Sys2Proof.Machine

namespace Channel

/-- R149: the output is at its active level while the channel is RUNNING and the position is below the applied duty. -/
def active (x : Channel) : Bool := x.running && decide (x.position < x.duty.toNat)

/-- The smaller of a duty and a cap value (R151, R155). -/
def capped (duty cap : Word) : Word := if cap.toNat < duty.toNat then cap else duty

/-- R151 step 3: a duty restrained by the cap list and the force set as they stand. -/
def restrained (x : Channel) (duty : Word) : Word :=
  if x.forces = 0 then x.caps.foldl (fun d c => capped d c.2) duty else 0

/-- R151 steps 1 to 3. A trigger point of 0 is reached at the period start itself (step 5), so it is taken there. -/
def start (x : Channel) : Channel :=
  { x with
    running := true
    position := 0
    period := x.cfg.period
    trig := x.cfg.trig
    duty := x.restrained x.cfg.duty
    trigDone := x.cfg.trig == 0
    owed := 0 }

/-- R154: STOPPED; position and applied duty become 0, the restraints and the other applied values are kept. -/
def stop (x : Channel) : Channel :=
  { x with running := false, position := 0, duty := 0, trigDone := false, owed := 0 }

/-- R155: a cap arrives. -/
def addCap (x : Channel) (r : RuleIx) (v : Word) : Channel :=
  { x with caps := x.caps ++ [(r, v)], duty := if x.running then capped x.duty v else x.duty }

/-- R156: a force arrives. -/
def addForce (x : Channel) (r : RuleIx) : Channel :=
  { x with forces := x.forces ||| ruleBit r, duty := if x.running then 0 else x.duty }

/-- R157: rule `r`'s restraints are withdrawn; applied duty and output stay as they are. -/
def dropRule (x : Channel) (r : RuleIx) : Channel :=
  { x with caps := x.caps.filter fun c => c.1 != r, forces := x.forces &&& ~~~ruleBit r }

/-! ### Points within a period -/

/-- This period still has a trigger-point event to come (R159). -/
def trigAhead (x : Channel) : Bool := !x.trigDone && decide (x.trig.toNat < x.period.toNat)

/-- This period's pulse is still to end by its applied duty (R151). -/
def dutyAhead (x : Channel) : Bool :=
  decide (x.position < x.duty.toNat) && decide (x.duty.toNat < x.period.toNat)

/-- The position at which the channel's next event falls: the trigger point, the end of the pulse or the end of the period,
whichever comes first. -/
def nextPoint (x : Channel) : Nat :=
  min (min (if x.trigAhead then x.trig.toNat else x.period.toNat) (if x.dutyAhead then x.duty.toNat else x.period.toNat))
    x.period.toNat

/-- The position takes up the time owed, up to the last unit before the channel's next event (log 5). -/
def catchUp (x : Channel) : Channel :=
  let rise := min x.owed (x.nextPoint - 1 - x.position)
  { x with position := x.position + rise, owed := x.owed - rise }

/-- R151: the position rises by one every 50 ns. -/
def tick (x : Channel) (micros : Nat) : Channel :=
  if x.running then { x with owed := x.owed + Config.unitsPerMicro * micros }.catchUp else x

/-- The event at position `p` is the channel's next one, and the time to it has passed (log 5, log 6). -/
def reaches (x : Channel) (p : Nat) : Bool := x.running && p == x.nextPoint && decide (p ≤ x.position + x.owed)

/-- The position has risen to `p`; the time that has passed since is still owed. -/
def arrive (x : Channel) (p : Nat) : Channel := { x with position := p, owed := x.position + x.owed - p }

/-- R149, R153: the level of the pin. -/
def pin (x : Channel) : Level :=
  match x.cfg.polarity, x.active with
  | .activeHigh, true | .activeLow, false => .high
  | .activeHigh, false | .activeLow, true => .low

/-- R161: the smallest cap value in the list; the absent-field value when the list is empty (R196). -/
def capMin (x : Channel) : Word :=
  match x.caps with
  | [] => 0
  | c :: cs => cs.foldl (fun d e => capped d e.2) c.2

/-- R161: one indication per rule with an entry in the cap list. -/
def capSet (x : Channel) : BitVec 16 := x.caps.foldl (fun m c => m ||| ruleBit c.1) 0

end Channel

namespace State

/-- R149, R153. -/
def pwmPin (s : State) (c : ChIx) : Level := (s.channel c).pin

/-- R151 step 5: a period that has just started raises the trigger-point event if its trigger point is 0. -/
def pointAtStart (s : State) (c : ChIx) : State := if (s.channel c).trig = 0 then s.triggerPoint c else s

/-- A period start that begins a run (R151, R154). -/
def startPeriod (s : State) (c : ChIx) : State := (s.setChannel c (s.channel c).start).pointAtStart c

/-- PWM_PERIOD_START while RUNNING: the position reaches the applied period, and the time since belongs to the new period
(R151, log 5). -/
def periodEnd (s : State) (c : ChIx) : State :=
  let x := s.channel c
  if x.reaches x.period.toNat then
    let y := { x.start with owed := (x.arrive x.period.toNat).owed }.catchUp
    (s.setChannel c y).pointAtStart c
  else s

/-- PWM_DUTY_END: the position reaches the applied duty, and the output goes to its inactive level (R149, R151). -/
def dutyEnd (s : State) (c : ChIx) : State :=
  let x := s.channel c
  if x.dutyAhead ∧ x.reaches x.duty.toNat then s.setChannel c (x.arrive x.duty.toNat).catchUp else s

/-- PWM_TRIGGER_POINT: the position reaches the applied trigger point, and the event is handed on (R159). -/
def pointReached (s : State) (c : ChIx) : State :=
  let x := s.channel c
  if x.trigAhead ∧ x.reaches x.trig.toNat then
    (s.setChannel c { x.arrive x.trig.toNat with trigDone := true }.catchUp).triggerPoint c
  else s

/-- R153, R154: polarity in bit 1, enable in bit 0; the enable acts at once, but in GUARD a set enable is only stored. -/
def writePwmCtrl (c : ChIx) (d : Word) (s : State) : State :=
  let x := s.channel c
  let enable := d.getLsbD 0
  let t := s.setChannel c { x with cfg := { x.cfg with
    enable := enable
    polarity := if d.getLsbD 1 then .activeLow else .activeHigh } }
  match enable, x.running with
  | true, false => if s.mode.mode = .active then t.startPeriod c else t
  | false, true => t.setChannel c (t.channel c).stop
  | true, true | false, false => t

/-- R152: a pending value is stored; a period of 0 or 1 is set aside. -/
def writePwmConfig (c : ChIx) (r : PwmReg) (d : Word) (s : State) : State :=
  let x := s.channel c
  match r with
  | .period => if d.toNat < 2 then s else s.setChannel c { x with cfg := { x.cfg with period := d } }
  | .duty => s.setChannel c { x with cfg := { x.cfg with duty := d } }
  | .trig => s.setChannel c { x with cfg := { x.cfg with trig := d } }

/-- R160: at GUARD entry every RUNNING channel becomes STOPPED. -/
def stopChannels (s : State) : State :=
  { s with pwm := tabulate fun c => if (s.channel c).running then (s.channel c).stop else s.channel c }

/-- R160: at a GUARD exit every enabled channel takes a period start; its event, if due at once, is raised apart. -/
def startChannels (s : State) : State :=
  { s with pwm := tabulate fun c => if (s.channel c).cfg.enable then (s.channel c).start else s.channel c }

end State

/-- The address of channel `c`'s register at `offset` (11.6.1). -/
def pwmAddr (c : ChIx) (offset : Nat) : Byte := BitVec.ofNat 8 (0x80 + 0x10 * c.val + offset)

/-- The offset of a pending value's register in its channel's group (11.6.1). -/
def pwmOffset : PwmReg → Nat
  | .period => 1
  | .duty => 2
  | .trig => 3

/-- PWM_TRIGGER_POINT (R159). -/
def execPwmTriggerPoint (c : ChIx) (s : State) : Out := .next (s.pointReached c)

/-- PWM_PERIOD_START (R151). -/
def execPwmPeriodStart (c : ChIx) (s : State) : Out := .next (s.periodEnd c)

/-- PWM_DUTY_END (R151). -/
def execPwmDutyEnd (c : ChIx) (s : State) : Out := .next (s.dutyEnd c)

/-- PWM_CTRL_WRITE (R153, R154). -/
def execPwmCtrlWrite (c : ChIx) (data : Word) (s : State) : Out :=
  .next (s.hostWrite (pwmAddr c 0) data (State.writePwmCtrl c data))

/-- PWM_CONFIG_WRITE (R152). -/
def execPwmConfigWrite (c : ChIx) (r : PwmReg) (data : Word) (s : State) : Out :=
  .next (s.hostWrite (pwmAddr c (pwmOffset r)) data (State.writePwmConfig c r data))

end Sys2Proof.Machine
end

