-- ==== Sys2Proof/Machine/Guard.lean ====
section
/-! DEFINITION. Mode control (chapter 10): entering GUARD, its refusals, and leaving it by GUARD_EXIT or by a wake trip. -/

namespace Sys2Proof.Machine

/-- What a GUARD exit releases at once: the expiry of a frozen countdown whose time had run out (R49, R182), and the
trigger-point event of a restarted channel whose trigger point is 0 (R151 step 5, R160). -/
inductive Released where
  | expiry (n : SlotIx)
  | point (c : ChIx)
  deriving DecidableEq, Repr

namespace State

def setMode (s : State) (m : ModeControl) : State := { s with mode := m }

/-- The slots a pinned rule protects: its source A, and source B for DIFF_ABOVE (R11, R120, R177). -/
def pinnedSource (s : State) (n : SlotIx) : Bool :=
  (List.finRange 16).any fun r =>
    (s.rule r).pinned && ((s.rule r).srcA == n ||
      match (s.rule r).kind with
      | .diffAbove b => b == n
      | .above | .below | .outside _ | .inside _ | .step => false)

/-- Some slot's installed record is both ENABLED and marked with the guard attribute (R177). -/
def hasGuardSlot (s : State) : Bool :=
  (List.finRange 32).any fun n => (s.record n).enabled && (s.record n).guard

/-- A pinned rule has a source without the guard attribute (R177). -/
def pinnedUnguarded (s : State) : Bool :=
  (List.finRange 32).any fun n => s.pinnedSource n && !(s.record n).guard

/-- R72, R75: the job in the engine is abandoned without result; its slot's last outcome becomes ABORTED. -/
def abandonJob (s : State) (j : Job) : State := ((s.setOutcome j.slot .aborted).setEngine .idle).grant

/-- R75: at GUARD entry a job whose slot's installed record lacks the guard attribute is abandoned. -/
def guardAbort (s : State) : State :=
  match s.engine.state with
  | .busy j => if (s.record j.slot).guard then s else s.abandonJob j
  | .idle | .faulted => s

/-- R49: RUNNING countdowns of slots without the guard attribute are frozen. -/
def freezeCountdowns (s : State) : State :=
  s.setTriggers { s.triggers with
    countdowns := tabulate fun n => if (s.record n).guard then s.countdown n else (s.countdown n).freeze }

/-- R178: the mode change as the blocks take it; the grant after an abort is made against the queue after the withdrawal. -/
def enterGuard (s : State) : State :=
  let t := s.setMode { s.mode with mode := .guard }
  let u := t.withdraw fun e => (t.record e.slot).guard
  u.freezeCountdowns.stopChannels.guardAbort

/-- GUARD_ENTER (R177, R178). -/
def guardEnter (s : State) : CommandEnd :=
  if s.mode.mode = .guard then .result s .guardActive
  else if !s.hasGuardSlot then .result s .noGuardSlots
  else if s.pinnedUnguarded then .result s .pinned
  else .result s.enterGuard .ok

/-! ## Leaving -/

/-- One released occurrence is taken. -/
def takeReleased (s : State) : Released → State
  | .expiry n => s.expire n
  | .point c => s.triggerPoint c

/-- The released occurrences are taken one by one. R45: of several that come together "either may be taken first", so which
is next is a free value; a single one leaves no choice. -/
def takeAllReleased : Nat → List Released → State → State
  | 0, _, s => s
  | _ + 1, [], s => s
  | _ + 1, [o], s => s.takeReleased o
  | k + 1, o :: p :: os, s =>
    let all := o :: p :: os
    let i := Config.exitPick s.choices % all.length
    takeAllReleased k (all.eraseIdx i) (s.useChoice.takeReleased (all.getD i o))

/-- The occurrences the exit releases at once, read before the countdowns resume. -/
def released (s : State) : List Released :=
  ((List.finRange 32).filter fun n => (s.countdown n).state == .frozen && timeIsUp (s.countdown n).left).map .expiry ++
    ((List.finRange 4).filter fun c => (s.channel c).cfg.enable && (s.channel c).cfg.trig == 0).map .point

/-- R49: every FROZEN countdown becomes RUNNING from the remaining time it held. -/
def thawCountdowns (s : State) : State :=
  s.setTriggers { s.triggers with countdowns := tabulate fun n => (s.countdown n).thaw }

/-- A GUARD exit with its cause: the mode becomes ACTIVE, GUARD_LEFT is latched, and the blocks take the change
(R180 to R182). -/
def leaveGuard (s : State) (cause : ExitCause) : State :=
  let t := (s.setMode { s.mode with mode := .active, lastExit := cause }).occur .guardLeft
  takeAllReleased t.released.length t.released t.thawCountdowns.startChannels

/-- GUARD_EXIT (R180). -/
def guardExit (s : State) : CommandEnd :=
  match s.mode.mode with
  | .guard => .result (s.leaveGuard .host) .ok
  | .active => .result s .notInGuard

/-- R181: mode control takes the exit a wake trip hands it; in ACTIVE it changes nothing. -/
def wakeExit (s : State) (r : RuleIx) : State :=
  match s.mode.mode with
  | .guard => s.leaveGuard (.wake r)
  | .active => s

/-- R176: a write of GUARD_CTRL replaces the stretch code. -/
def writeGuardCtrl (d : Word) (s : State) : State := s.setMode { s.mode with stretch := field d 0 2 }

end State

/-- GUARD_ENTER (R177, R178). -/
def execGuardEnter (arg : Byte) (s : State) : Out := .next (s.hostCommand .guardEnter arg State.guardEnter)

/-- GUARD_EXIT (R180). -/
def execGuardExit (arg : Byte) (s : State) : Out := .next (s.hostCommand .guardExit arg State.guardExit)

end Sys2Proof.Machine
end

