-- ==== Sys2Proof/Machine/Switches.lean ====
section
/-! DEFINITION. The load switches (chapter 7): commands, timers, current limit, holds and restore, configuration. -/

namespace Sys2Proof.Machine

/-- R127: the soft-start lengths of codes 0 to 3, in µs. -/
def softStartMicros (code : BitVec 2) : Nat := 250 * 2 ^ code.toNat

namespace Switch

/-- R133: entry into SOFTSTART starts the soft-start timer with the length the code gives at that moment. -/
def enterSoftStart (w : Switch) : Switch :=
  { w with state := .softstart, timer := some ⟨.softStart, softStartMicros w.cfg.softStart⟩ }

/-- R134: entry into ON starts the refill timer. -/
def enterOn (w : Switch) : Switch :=
  { w with state := .on, timer := some ⟨.refill, Config.refillMicros⟩ }

/-- R135: entry into ILIM_WAIT starts the retry wait with the retry delay at that moment, 1 ms to the unit. -/
def enterIlimWait (w : Switch) : Switch :=
  { w with state := .ilimWait, timer := some ⟨.retry, 1000 * w.cfg.retryDelay.toNat⟩ }

/-- Entry into a state without a timer cancels the running one (R128). -/
def enterIdle (w : Switch) (st : SwitchState) : Switch := { w with state := st, timer := none }

/-- The timer of kind `k` runs and has run out (R128, log 3). -/
def due (w : Switch) (k : TimerKind) : Bool :=
  match w.timer with
  | some t => t.kind == k && timeIsUp t.left
  | none => false

/-- A running timer loses the time that passes; one that has run out waits for its expiry. -/
def tick (w : Switch) (micros : Nat) : Switch :=
  { w with timer := w.timer.map fun t => { t with left := t.left - micros } }

/-- R133. -/
def softStartExpiry (w : Switch) : Switch :=
  if w.state = .softstart ∧ w.due .softStart then w.enterOn else w

/-- R134: the budget becomes the maximum and the timer starts again. -/
def refillExpiry (w : Switch) : Switch :=
  if w.state = .on ∧ w.due .refill then { w.enterOn with retries := w.cfg.retryMax.toNat } else w

/-- R135. -/
def retryExpiry (w : Switch) : Switch :=
  if w.state = .ilimWait ∧ w.due .retry then w.enterSoftStart else w

/-- R139: rule `r`'s hold joins the set; a set that was empty opens a switch in SOFTSTART, ON or ILIM_WAIT. -/
def addHold (w : Switch) (r : RuleIx) : Switch :=
  let v := { w with holds := w.holds ||| ruleBit r }
  match w.state with
  | .softstart | .on | .ilimWait => if w.holds = 0 then v.enterIdle .held else v
  | .off | .held | .lockout => v

/-- R140: rule `r`'s hold leaves the set; when the set becomes empty in HELD, the restore policy decides. -/
def dropHold (w : Switch) (r : RuleIx) : Switch :=
  let v := { w with holds := w.holds &&& ~~~ruleBit r }
  if w.state = .held ∧ w.holds ≠ 0#16 ∧ v.holds = 0#16 then
    match w.cfg.restore with
    | .auto => v.enterSoftStart
    | .manual => { v.enterIdle .off with demand := false }
  else v

/-- R143: the configuration is replaced, but a retry delay of 0 is set aside; retry remaining is clipped. Retry delay in
bits 15–8, lockout-fault 6, restore 5, retry maximum 4–2, soft-start code 1–0. -/
def writeCfg (w : Switch) (d : Word) : Switch :=
  { w with
    cfg :=
      { softStart := field d 0 2
        retryDelay := if field d 8 8 = 0 then w.cfg.retryDelay else field d 8 8
        retryMax := field d 2 3
        restore := if d.getLsbD 5 then .auto else .manual
        lockoutFault := d.getLsbD 6 }
    retries := min w.retries (field d 2 3).toNat }

/-- R136: the switch's own part of a current-limit event taken in SOFTSTART or ON. -/
def limited (w : Switch) : Switch :=
  let v := { w with trips := satInc 255 w.trips }
  if w.retries = 0 then v.enterIdle .lockout
  else { v.enterIlimWait with retries := w.retries - 1 }

end Switch

namespace State

/-- SW_ON (R130). -/
def swOn (arg : Byte) (s : State) : CommandEnd :=
  withIndex 4 arg s fun n =>
    let w := s.switch n
    match w.state with
    | .off =>
      if w.holds = 0 then .result (s.setSwitch n { w.enterSoftStart with demand := true }) .ok
      else .result (s.setSwitch n { w.enterIdle .held with demand := true }) .ok
    | .softstart | .on | .held | .ilimWait => .result s .already
    | .lockout => .result s .lockedOut

/-- SW_OFF (R131). -/
def swOff (arg : Byte) (s : State) : CommandEnd :=
  withIndex 4 arg s fun n =>
    let w := s.switch n
    match w.state with
    | .off => .result s .already
    | .softstart | .on | .held | .ilimWait =>
      .result (s.setSwitch n { w.enterIdle .off with demand := false }) .ok
    | .lockout =>
      if w.demand then .result (s.setSwitch n { w with demand := false }) .ok else .result s .already

/-- SW_CLEAR (R132). -/
def swClear (arg : Byte) (s : State) : CommandEnd :=
  withIndex 4 arg s fun n =>
    let w := s.switch n
    if w.state = .lockout then
      .result (s.setSwitch n
        { w.enterIdle .off with demand := false, retries := w.cfg.retryMax.toNat }).faultUpdate .ok
    else .result s .notLocked

/-- A current-limit event (R136); in the states whose output is off it has no effect (R137). -/
def currentLimit (s : State) (n : SwIx) : State :=
  let w := s.switch n
  if s.swOut n then
    (((s.setSwitch n w.limited).occur .switchIlim).occurIf (w.retries == 0) .switchLockout).faultUpdate
  else s

/-- SW_CFGn (R143); the lockout-fault attribute acts at once in the FAULT logic (R171). -/
def writeSwCfg (n : SwIx) (d : Word) (s : State) : State :=
  (s.setSwitch n ((s.switch n).writeCfg d)).faultUpdate

/-- SW_TRIPSn: any write clears the trip count (R144). -/
def clearSwTrips (n : SwIx) (s : State) : State := s.setSwitch n { s.switch n with trips := 0 }

end State

/-- The address of switch `n`'s register at `offset` (11.6.1). -/
def swAddr (n : SwIx) (offset : Nat) : Byte := BitVec.ofNat 8 (0x60 + 4 * n.val + offset)

/-- SW_ON (R130). -/
def execSwOn (n : Byte) (s : State) : Out := .next (s.hostCommand .swOn n (State.swOn n))

/-- SW_OFF (R131). -/
def execSwOff (n : Byte) (s : State) : Out := .next (s.hostCommand .swOff n (State.swOff n))

/-- SW_CLEAR (R132). -/
def execSwClear (n : Byte) (s : State) : Out := .next (s.hostCommand .swClear n (State.swClear n))

/-- SOFT_START_EXPIRY (R133). -/
def execSoftStartExpiry (n : SwIx) (s : State) : Out := .next (s.setSwitch n (s.switch n).softStartExpiry)

/-- REFILL_EXPIRY (R134). -/
def execRefillExpiry (n : SwIx) (s : State) : Out := .next (s.setSwitch n (s.switch n).refillExpiry)

/-- RETRY_EXPIRY (R135). -/
def execRetryExpiry (n : SwIx) (s : State) : Out := .next (s.setSwitch n (s.switch n).retryExpiry)

/-- CURRENT_LIMIT (R136, R137). -/
def execCurrentLimit (n : SwIx) (s : State) : Out := .next (s.currentLimit n)

/-- SW_CFG_WRITE (R143). -/
def execSwCfgWrite (n : SwIx) (data : Word) (s : State) : Out :=
  .next (s.hostWrite (swAddr n 0) data (State.writeSwCfg n data))

/-- SW_TRIPS_WRITE (R144). -/
def execSwTripsWrite (n : SwIx) (data : Word) (s : State) : Out :=
  .next (s.hostWrite (swAddr n 3) data (State.clearSwTrips n))

end Sys2Proof.Machine
end

