-- ==== Sys2Proof/Machine/Watch.lean ====
section
/-! DEFINITION. Watch rules (chapter 6): judging a result, the rule state machine, claims, the trip log, rule commands. -/

namespace Sys2Proof.Machine

/-- The four cases of an evaluation (R104). -/
inductive Verdict where
  | skipped | qualifying | releasing | neutral
  deriving DecidableEq, Repr

/-- The verdict of a usable delivery from the two bands of R105. -/
def Verdict.ofBands (qualifies releases : Bool) : Verdict :=
  if qualifies then .qualifying else if releases then .releasing else .neutral

/-- R107, R108: an unusable delivery counts as qualifying for a fail-safe rule and is skipped by the others. -/
def Verdict.unusable (failSafe : Bool) : Verdict := if failSafe then .qualifying else .skipped

namespace WatchRecord

/-- R105 for the kinds that judge the value `v` of A alone, and for the difference and the step as `v`. -/
def bands (r : WatchRecord) (v : Int) : Verdict :=
  let t1 := r.t1.toInt
  let h : Int := r.h.toNat
  match r.kind with
  | .above => .ofBands (t1 < v) (v < t1 - h)
  | .below => .ofBands (v < t1) (t1 + h < v)
  | .outside t2 => .ofBands (v < t1 || (t2.toNat : Int) < v) (t1 + h ≤ v && v ≤ (t2.toNat : Int) - h)
  | .inside t2 => .ofBands (t1 ≤ v && v ≤ (t2.toNat : Int)) (v < t1 - h || (t2.toNat : Int) + h < v)
  | .diffAbove _ => .ofBands (t1 < v) (v < t1 - h)
  | .step => .ofBands (t1 < v) (v < max (t1 - h) 1)

/-- Source B, present for DIFF_ABOVE (R97). -/
def srcB (r : WatchRecord) : Option SlotIx :=
  match r.kind with
  | .diffAbove b => some b
  | .above | .below | .outside _ | .inside _ | .step => none

end WatchRecord

namespace State

/-- How rule `n` sorts a delivery `res` of its source A (R104 to R108). -/
def verdict (s : State) (n : RuleIx) (res : ResultRecord) : Verdict :=
  let r := s.rule n
  let v : Int := res.value.toNat
  match res.state with
  | .absent | .invalid => .unusable r.failSafe
  | .valid =>
    match r.kind with
    | .diffAbove b =>
      match (s.result b).state with
      | .valid => r.bands (v - ((s.result b).value.toNat : Int))
      | .absent | .invalid => .unusable r.failSafe
    | .step =>
      match (s.ruleRt n).previous with
      | some p => r.bands |v - (p.toNat : Int)|
      | none => .skipped
    | .above | .below | .outside _ | .inside _ => r.bands v

/-! ## Claims (R112) -/

/-- A rule's hold arrives at switch `k` if its open mask names it (R139). -/
def arriveHold (n : RuleIx) (mask : BitVec 4) (s : State) (k : SwIx) : State :=
  if mask.getLsbD k then s.setSwitch k ((s.switch k).addHold n) else s

/-- A rule's force arrives at channel `c` if its force mask names it (R156). -/
def arriveForce (n : RuleIx) (mask : BitVec 4) (s : State) (c : ChIx) : State :=
  if mask.getLsbD c then s.setChannel c ((s.channel c).addForce n) else s

/-- A rule's cap arrives at its channel, if the rule has one (R155). -/
def arriveCap (s : State) (n : RuleIx) (cap : Option (ChIx × Word)) : State :=
  match cap with
  | some (c, v) => s.setChannel c ((s.channel c).addCap n v)
  | none => s

/-- The claims of rule `n` are placed together (R111 step 1). -/
def placeClaims (s : State) (n : RuleIx) : State :=
  let r := s.rule n
  let t := (List.finRange 4).foldl (arriveHold n r.openMask) s
  let u := (List.finRange 4).foldl (arriveForce n r.forceMask) t
  u.arriveCap n r.cap

/-- The claims of rule `n` are withdrawn together (R112, R140, R157). -/
def withdrawClaims (s : State) (n : RuleIx) : State :=
  { s with
    switches := tabulate fun k => (s.switch k).dropHold n
    pwm := tabulate fun c => (s.channel c).dropRule n }

/-! ## Trip log (R122, R123) -/

/-- The entry of a trip of rule `n` on the delivery `res` (R122). -/
def tripEntry (s : State) (n : RuleIx) (res : ResultRecord) : TripEntry where
  rule := n
  aSlot := (s.rule n).srcA
  aValue := if res.state = .valid then res.value else 0
  aInvalid := res.state != .valid
  b := (s.rule n).srcB.map fun b =>
    if (s.result b).state = .valid then ((s.result b).value, false) else (0, true)
  time := s.now
  overflow := 0

/-- One more trip on entry 15's overflow count, saturating at 255 (R123). -/
def bumpOverflow (l : List TripEntry) : List TripEntry :=
  l.modify (Config.tripLogSize - 1) fun e => { e with overflow := satInc 255 e.overflow }

/-- R123: the trip joins the log, or is counted on entry 15; TRIPLOG_FULL is latched when it fills or finds the log full. -/
def logTrip (s : State) (e : TripEntry) : State :=
  let l := s.tripLog.entries
  if l.length < Config.tripLogSize then
    (s.setTripLog { s.tripLog with entries := l ++ [e] }).occurIf (l.length + 1 == Config.tripLogSize) .triplogFull
  else (s.setTripLog { s.tripLog with entries := bumpOverflow l }).occur .triplogFull

/-! ## Trip and release -/

/-- R58: the rule's snapshot request, judged under R45 when it is taken. -/
def snapshotRequest (s : State) (n : RuleIx) : State :=
  match (s.rule n).snapshot with
  | some k => s.raise .snapshot k
  | none => s

/-- R111 steps 4 to 6: snapshot request, WATCH_TRIP and, for a wake rule in GUARD, the exit. "Either may be taken first" of
the request and the exit, so where both come about their order is a free value. -/
def snapshotAndExit (s : State) (n : RuleIx) : State :=
  let r := s.rule n
  if s.mode.mode = .guard ∧ r.wake then
    if r.snapshot.isSome then
      if Config.snapshotFirst s.choices then
        ((s.useChoice.snapshotRequest n).occurIf r.irq .watchTrip).wakeExit n
      else ((s.useChoice.occurIf r.irq .watchTrip).wakeExit n).snapshotRequest n
    else (s.occurIf r.irq .watchTrip).wakeExit n
  else (s.snapshotRequest n).occurIf r.irq .watchTrip

/-- R111: rule `n` enters TRIPPED on the delivery `res` and takes its entry actions in order. -/
def trip (s : State) (n : RuleIx) (res : ResultRecord) : State :=
  let placed := ((s.setRuleRt n { s.ruleRt n with state := .tripped, run := 0 }).placeClaims n).faultUpdate
  let logged := placed.logTrip (placed.tripEntry n res)
  let rt := logged.ruleRt n
  let counted := logged.setRuleRt n { rt with trips := satInc 255 rt.trips, lastTrip := some logged.now }
  let acted := counted.snapshotAndExit n
  acted.setRuleRt n { acted.ruleRt n with ackAhead := false }

/-- Rule `n` moves to CLEAR from an active state: its claims are withdrawn, FAULT takes the new state, and WATCH_RELEASE is
latched if irq is set (R114, R116). -/
def clearRule (s : State) (n : RuleIx) : State :=
  (((s.setRuleRt n { s.ruleRt n with state := .clear, run := 0, ackAhead := false }).withdrawClaims n).faultUpdate).occurIf
    (s.rule n).irq .watchRelease

/-- R114: a released rule goes to LATCHED keeping its claims, or to CLEAR. -/
def release (s : State) (n : RuleIx) : State :=
  if (s.rule n).latching ∧ !(s.ruleRt n).ackAhead then
    s.setRuleRt n { s.ruleRt n with state := .latched, run := 0 }
  else s.clearRule n

/-- A rule's state and run count move, with nothing else (R110, R113). -/
def moveRule (s : State) (n : RuleIx) (st : RuleState) (run : Nat) : State :=
  s.setRuleRt n { s.ruleRt n with state := st, run := run }

/-- R110: a qualifying result in CLEAR or PENDING, the `run`th of its run. -/
def countQualifying (s : State) (n : RuleIx) (res : ResultRecord) (run : Nat) : State :=
  if (s.rule n).confirm.toNat ≤ run then s.trip n res else s.moveRule n .pending run

/-- R113: a releasing result in TRIPPED or RELEASING, the `run`th of its run. -/
def countReleasing (s : State) (n : RuleIx) (run : Nat) : State :=
  if (s.rule n).release.toNat ≤ run then s.release n else s.moveRule n .releasing run

/-- R104, R110, R113: rule `n` evaluates the delivery and moves. -/
def judge (s : State) (n : RuleIx) (res : ResultRecord) : State :=
  match (s.ruleRt n).state, s.verdict n res with
  | .disarmed, _ | .latched, _ => s
  | _, .skipped => s
  | .clear, .qualifying => s.countQualifying n res 1
  | .pending, .qualifying => s.countQualifying n res ((s.ruleRt n).run + 1)
  | .clear, .releasing | .clear, .neutral | .pending, .releasing | .pending, .neutral => s.moveRule n .clear 0
  | .tripped, .releasing => s.countReleasing n 1
  | .releasing, .releasing => s.countReleasing n ((s.ruleRt n).run + 1)
  | .tripped, .qualifying | .tripped, .neutral | .releasing, .qualifying | .releasing, .neutral =>
    s.moveRule n .tripped 0

/-- R106: after a VALID delivery, in every state other than DISARMED, the rule keeps its value. -/
def keepPrevious (s : State) (n : RuleIx) (res : ResultRecord) : State :=
  if res.state = .valid ∧ (s.ruleRt n).state ≠ .disarmed then
    s.setRuleRt n { s.ruleRt n with previous := some res.value }
  else s

/-- RULE_EVALUATION (R104, R106) of rule `n`, if slot `a` is its source A. -/
def evaluate (a : SlotIx) (res : ResultRecord) (s : State) (n : RuleIx) : State :=
  if (s.rule n).srcA = a then (s.judge n res).keepPrevious n res else s

/-- R80 part 3: each rule whose source A is slot `a`, in ascending rule number. -/
def evaluateRules (s : State) (a : SlotIx) (res : ResultRecord) : State :=
  (List.finRange 16).foldl (evaluate a res) s

/-! ## Rule commands -/

/-- ACK (R116). -/
def ack (arg : Byte) (s : State) : CommandEnd :=
  withIndex 16 arg s fun n =>
    if !(s.rule n).latching then .result s .notLatching
    else match (s.ruleRt n).state with
      | .latched => .result (s.clearRule n) .ok
      | .tripped | .releasing => .result (s.setRuleRt n { s.ruleRt n with ackAhead := true }) .ok
      | .clear | .pending | .disarmed => .result s .notLatched

/-- ARM (R117). -/
def arm (arg : Byte) (s : State) : CommandEnd :=
  withIndex 16 arg s fun n =>
    match (s.ruleRt n).state with
    | .disarmed =>
      .result (s.setRuleRt n { s.ruleRt n with state := .clear, run := 0, ackAhead := false, previous := none }) .ok
    | .clear | .pending | .tripped | .releasing | .latched => .result s .already

/-- The silent move to DISARMED; claims leave with it if the rule was active (R118). -/
def disarmRule (s : State) (n : RuleIx) : State :=
  let t := s.setRuleRt n { s.ruleRt n with state := .disarmed, run := 0, ackAhead := false, previous := none }
  if (s.ruleRt n).state.active then (t.withdrawClaims n).faultUpdate else t

/-- DISARM (R118). -/
def disarm (arg : Byte) (s : State) : CommandEnd :=
  withIndex 16 arg s fun n =>
    if (s.rule n).pinned then .result s .pinned
    else match (s.ruleRt n).state with
      | .disarmed => .result s .already
      | .clear | .pending | .tripped | .releasing | .latched => .result (s.disarmRule n) .ok

/-- TRIPLOG_CLEAR (R125). -/
def triplogClear (s : State) : CommandEnd :=
  .result (s.setTripLog { s.tripLog with entries := [] }) .ok

/-- R124: a write of TRIPLOG_SEL selects and captures; a value above 15 is set aside. The index is bits 7–0. -/
def writeTriplogSel (d : Word) (s : State) : State :=
  if h : (field d 0 8).toNat < 16 then
    s.setTripLog { s.tripLog with
      sel := ⟨(field d 0 8).toNat, h⟩
      readout := s.tripLog.entries[(field d 0 8).toNat]? }
  else s

end State

/-- ACK (R116). -/
def execAck (n : Byte) (s : State) : Out := .next (s.hostCommand .ack n (State.ack n))

/-- ARM (R117). -/
def execArm (n : Byte) (s : State) : Out := .next (s.hostCommand .arm n (State.arm n))

/-- DISARM (R118). -/
def execDisarm (n : Byte) (s : State) : Out := .next (s.hostCommand .disarm n (State.disarm n))

/-- TRIPLOG_CLEAR (R125). -/
def execTriplogClear (arg : Byte) (s : State) : Out :=
  .next (s.hostCommand .triplogClear arg State.triplogClear)

/-- TRIPLOG_SEL_WRITE (R124). -/
def execTriplogSelWrite (data : Word) (s : State) : Out :=
  .next (s.hostWrite 0x51 data (State.writeTriplogSel data))

end Sys2Proof.Machine
end

