-- ==== Sys2Proof/Machine/Results.lean ====
section
/-! DEFINITION. The result store and the capture FIFO (chapter 5): delivery, push, pop, flush, CAP_CTRL and RESULT_SEL. -/

namespace Sys2Proof.Machine

/-- A finished result as the engine hands it over (R68, R69). -/
structure Delivery where
  slot    : SlotIx
  state   : ResultState
  value   : Code12
  samples : Nat
  clipped : Bool
  time    : Time
  deriving DecidableEq, Repr

/-- R78: the record a delivery makes of the slot's previous one; the sequence goes on by one and wraps. -/
def Delivery.record (d : Delivery) (old : ResultRecord) : ResultRecord where
  state := d.state
  value := d.value
  seq := old.seq + 1
  time := d.time
  samples := d.samples
  clipped := d.clipped

/-- R84: the capture entry made from the record just written; its gap is given when it is stored. -/
def ResultRecord.toCapture (r : ResultRecord) (n : SlotIx) : CaptureEntry where
  slot := n
  seq := r.seq
  value := r.value
  invalid := r.state == .invalid
  clipped := r.clipped
  time := r.time
  gap := none

/-- R84, R85: the gap field for a pending loss count, absent when nothing was lost. -/
def gapField (lost : Nat) : Option Nat := if lost = 0 then none else some lost

namespace CaptureFifo

/-- R85: the entry joins the tail with the losses since the last one stored. -/
def store (f : CaptureFifo) (e : CaptureEntry) : CaptureFifo :=
  { f with entries := f.entries ++ [{ e with gap := gapField f.pendingLoss }], pendingLoss := 0 }

/-- R86: the entry is dropped and counted. -/
def dropNew (f : CaptureFifo) : CaptureFifo := { f with pendingLoss := satInc 255 f.pendingLoss }

/-- The gap value of the head entry, 0 when it has none. -/
def headGap (f : CaptureFifo) : Nat := (f.entries.head?.bind CaptureEntry.gap).getD 0

/-- R87: the head is removed and counted together with its own gap; the new entry is stored with the count. -/
def replaceHead (f : CaptureFifo) (e : CaptureEntry) : CaptureFifo :=
  { f with
    entries := f.entries.tail ++ [{ e with gap := gapField (min (f.pendingLoss + 1 + f.headGap) 255) }]
    pendingLoss := 0 }

/-- R89: bits 7–1 the watermark, set aside when 0 or above 64; bit 0 the policy. -/
def writeCtrl (f : CaptureFifo) (d : Word) : CaptureFifo :=
  let w := (field d 1 7).toNat
  { f with
    policy := if d.getLsbD 0 then .keepNewest else .keepOldest
    watermark := if 1 ≤ w ∧ w ≤ Config.fifoSize then w else f.watermark }

end CaptureFifo

namespace State

/-- A push (R85 to R87): CAPTURE_LEVEL at the upward crossing of the watermark, CAPTURE_LOSS when something is lost. -/
def push (s : State) (e : CaptureEntry) : State :=
  if s.fifo.entries.length < Config.fifoSize then
    (s.setFifo (s.fifo.store e)).occurIf (s.fifo.entries.length + 1 == s.fifo.watermark) .captureLevel
  else
    match s.fifo.policy with
    | .keepOldest => (s.setFifo s.fifo.dropNew).occur .captureLoss
    | .keepNewest => (s.setFifo (s.fifo.replaceHead e)).occur .captureLoss

/-- R80 part 1: the slot's result record is written, with the next sequence number. -/
def writeResult (s : State) (d : Delivery) : State := s.setResult d.slot (d.record (s.result d.slot))

/-- R80 part 2: a capture entry is pushed if the slot carries the capture attribute. -/
def captureResult (s : State) (n : SlotIx) : State :=
  if (s.record n).capture then s.push ((s.result n).toCapture n) else s

/-- A delivery (R80): record, capture, watch rules, followers, in that order. -/
def deliver (s : State) (d : Delivery) : State :=
  (((s.writeResult d).captureResult d.slot).evaluateRules d.slot (d.record (s.result d.slot))).requestFollowers d.slot

/-- CAPTURE_POP (R91). -/
def capturePop (s : State) : CommandEnd :=
  match s.fifo.entries with
  | e :: es => .result (s.setFifo { s.fifo with entries := es, readout := some e }) .ok
  | [] => .result (s.setFifo { s.fifo with readout := none }) .empty

/-- CAPTURE_FLUSH (R93). -/
def captureFlush (s : State) : CommandEnd := .result (s.setFifo { s.fifo with entries := [], pendingLoss := 0 }) .ok

/-- CAP_CTRL (R89). -/
def writeCapCtrl (d : Word) (s : State) : State := s.setFifo (s.fifo.writeCtrl d)

/-- R82: a write of RESULT_SEL selects and captures; a value above 31 is set aside. The slot is bits 7–0. -/
def writeResultSel (d : Word) (s : State) : State :=
  if h : (field d 0 8).toNat < 32 then
    { s with results := { s.results with
      sel := ⟨(field d 0 8).toNat, h⟩
      readoutSlot := ⟨(field d 0 8).toNat, h⟩
      readout := s.result ⟨(field d 0 8).toNat, h⟩ } }
  else s

end State

/-- CAPTURE_POP (R91). -/
def execCapturePop (arg : Byte) (s : State) : Out := .next (s.hostCommand .capturePop arg State.capturePop)

/-- CAPTURE_FLUSH (R93). -/
def execCaptureFlush (arg : Byte) (s : State) : Out := .next (s.hostCommand .captureFlush arg State.captureFlush)

/-- CAP_CTRL_WRITE (R89). -/
def execCapCtrlWrite (data : Word) (s : State) : Out := .next (s.hostWrite 0x48 data (State.writeCapCtrl data))

/-- RESULT_SEL_WRITE (R82). -/
def execResultSelWrite (data : Word) (s : State) : Out := .next (s.hostWrite 0x40 data (State.writeResultSel data))

end Sys2Proof.Machine
end

