-- ==== Sys2Proof/Machine/Engine.lean ====
section
/-! DEFINITION. The conversion engine (chapter 4): completion and deadline of a sample, ABORT, RESTART_CONVERTER, captures. -/

namespace Sys2Proof.Machine

/-- R1: the acquisition time of codes 0 to 7, in µs. -/
def acquisitionMicros (acq : BitVec 3) : Nat := 2 ^ acq.toNat

/-- R1: the conversion time, in µs. -/
def conversionMicros : Resolution → Nat
  | .bits10 => 2
  | .bits12 => 3

namespace Job

/-- R63: the nominal length of a sample, in µs. -/
def sampleLength (j : Job) : Nat := acquisitionMicros j.acq + conversionMicros j.res

/-- R63: the deadline of a sample, in µs from its start. -/
def deadline (j : Job) : Nat := j.sampleLength + Config.deadlineMargin

/-- The raw code in the range of the snapshot resolution; at 10 bits it is the low ten bits (log 16). -/
def rawCode (j : Job) (raw : Code12) : Nat :=
  match j.res with
  | .bits12 => raw.toNat
  | .bits10 => (field raw 0 10).toNat

/-- R65: the full-scale raw code of the snapshot resolution. -/
def fullScale (j : Job) : Nat :=
  match j.res with
  | .bits12 => 4095
  | .bits10 => 1023

/-- R65: the scaled sample. -/
def scaled (j : Job) (raw : Code12) : Nat :=
  match j.res with
  | .bits12 => j.rawCode raw
  | .bits10 => 4 * j.rawCode raw

/-- R65: a raw code at an end of the scale clips. -/
def clips (j : Job) (raw : Code12) : Bool := j.rawCode raw == 0 || j.rawCode raw == j.fullScale

/-- R65: the job after a completed sample. -/
def addSample (j : Job) (raw : Code12) : Job :=
  { j with done := j.done + 1, sum := j.sum + j.scaled raw, clipped := j.clipped || j.clips raw }

/-- R68: the VALID result of a finished burst. -/
def validResult (j : Job) (now : Time) : Delivery where
  slot := j.slot
  state := .valid
  value := BitVec.ofNat 12 (j.sum / j.avg.count)
  samples := j.avg.count
  clipped := j.clipped
  time := now

/-- R69: the INVALID result of a job whose sample missed its deadline. -/
def invalidResult (j : Job) (now : Time) : Delivery where
  slot := j.slot
  state := .invalid
  value := 0
  samples := j.done
  clipped := j.clipped
  time := now

/-- R76: the fault record a missed deadline writes. -/
def faultRecord (j : Job) (now : Time) : FaultRecord where
  slot := j.slot
  input := j.input
  sample := j.done + 1
  withdrawn := j.withdrawn
  time := now

end Job

namespace State

/-- R67, R77: the job ends STALE. -/
def endStale (s : State) (j : Job) : State := ((s.setOutcome j.slot .stale).setEngine .idle).grant

/-- R68, R77: the burst is done; the delivery is taken whole, then the engine becomes IDLE and the arbiter grants. -/
def endStored (s : State) (j : Job) : State :=
  (((s.deliver (j.validResult s.now)).setOutcome j.slot .stored).setEngine .idle).grant

/-- R66: what follows a completed sample, `j` being the job with that sample counted. -/
def afterSample (s : State) (j : Job) : State :=
  if j.withdrawn then s.endStale j
  else if j.done = j.avg.count then s.endStored j
  else if j.cls = .normal ∧ s.queue.urgent ≠ [] then s.suspend j
  else s.startSample j

/-- The time that has passed since the start of the sample in progress, in µs (R63). -/
def sampleAge (s : State) (j : Job) : Nat := (s.now - j.sampleStart).toNat

/-- R63, R65, R70: the converter completes the sample at its nominal length; a late completion is still taken up to the
deadline (log 25). -/
def completes (s : State) (j : Job) : Bool := decide (j.sampleLength ≤ s.sampleAge j ∧ s.sampleAge j ≤ j.deadline)

/-- SAMPLE_COMPLETION (R63 to R65): taken only while that sample is in progress, at its time; any other is discarded. -/
def completion (s : State) (sample : Nat) (raw : Code12) : State :=
  match s.engine.state with
  | .busy j => if j.sampleId = sample ∧ s.completes j then s.afterSample (j.addSample raw) else s
  | .idle | .faulted => s

/-- The deadline of the sample in progress has come (R63, log 3). -/
def deadlineReached (s : State) (j : Job) : Bool := decide (j.deadline ≤ s.sampleAge j)

/-- R69: what the failed job hands on, and its slot's last outcome. -/
def endFailed (s : State) (j : Job) : State :=
  if j.withdrawn then s.setOutcome j.slot .stale
  else (s.deliver (j.invalidResult s.now)).setOutcome j.slot .invalid

/-- R69, R76: the engine enters FAULTED with the fault record written. -/
def enterFaulted (s : State) (f : FaultRecord) : State :=
  { s with engine := { s.engine with state := .faulted, faultRecord := some f } }

/-- DEADLINE_EXPIRY (R69): taken while a sample is in progress and its deadline has come. -/
def deadlineExpiry (s : State) : State :=
  match s.engine.state with
  | .busy j =>
    if s.deadlineReached j then ((s.endFailed j).enterFaulted (j.faultRecord s.now)).occur .converterFault else s
  | .idle | .faulted => s

/-- ABORT (R72). -/
def abort (s : State) : CommandEnd :=
  match s.engine.state with
  | .busy j => .result (s.abandonJob j) .ok
  | .idle | .faulted => .result s .nothingToAbort

/-- RESTART_CONVERTER (R74). -/
def restartConverter (s : State) : CommandEnd :=
  match s.engine.state with
  | .faulted => .result (s.setEngine .idle).grant .ok
  | .idle | .busy _ => .result s .notFaulted

/-- R76: a read of ENGINE_JOB captures the engine at that moment. -/
def captureJob (s : State) : State := { s with engine := { s.engine with jobReadout := some s.engine.state } }

/-- R76: a read of FAULT_INFO captures the fault record. -/
def captureFault (s : State) : State := { s with engine := { s.engine with faultReadout := s.engine.faultRecord } }

end State

/-- SAMPLE_COMPLETION (R65, R66). -/
def execSampleCompletion (sample : Nat) (raw : Code12) (s : State) : Out := .next (s.completion sample raw)

/-- DEADLINE_EXPIRY (R69). -/
def execDeadlineExpiry (s : State) : Out := .next s.deadlineExpiry

/-- ABORT (R72). -/
def execAbort (arg : Byte) (s : State) : Out := .next (s.hostCommand .abort arg State.abort)

/-- RESTART_CONVERTER (R74). -/
def execRestartConverter (arg : Byte) (s : State) : Out :=
  .next (s.hostCommand .restartConverter arg State.restartConverter)

end Sys2Proof.Machine
end

