-- ==== Sys2Proof/Machine/Operands.lean ====
section
/-! DEFINITION. The layouts of the window's registers (11.6): the codes of enumerated fields, the word each register shows,
and what a write of a staging register stores (R7). -/

namespace Sys2Proof.Machine

/-! ## Halves, counts and sets -/

/-- The low half of a time (11.6.1). -/
def lo (t : Time) : Word := field t 0 16

/-- The high half of a time (11.6.1). -/
def hi (t : Time) : Word := field t 16 16

/-- A count or an index in `w` bits. -/
abbrev num (w n : Nat) : BitVec w := BitVec.ofNat w n

/-- One indication for each of `n` numbered things, the lowest in bit 0. -/
def marks (n : Nat) (f : Fin n → Bool) : BitVec n :=
  (List.finRange n).foldl (fun m i => if f i then m ||| BitVec.twoPow n i else m) 0

/-! ## Codes of enumerated fields (11.6.1, 11.6.2) -/

/-- The code of a class: QUEUE_ENTRY bit 5, ENGINE_JOB bit 7, STG_SLOT_A bit 15 (11.6.1, 11.6.2). -/
def PClass.code : PClass → BitVec 1
  | .normal => 0
  | .urgent => 1

/-- The code of a sub-list: QUEUE_SEL bit 8, "0 URGENT, 1 NORMAL" (11.6.1). -/
def PClass.selCode : PClass → BitVec 1
  | .urgent => 0
  | .normal => 1

def Resolution.code : Resolution → BitVec 1
  | .bits12 => 0
  | .bits10 => 1

def Edge.code : Edge → BitVec 2
  | .rising => 0
  | .falling => 1
  | .both => 2

def Edge.ofCode (c : BitVec 2) : Option Edge :=
  match c.toNat with
  | 0 => some .rising
  | 1 => some .falling
  | 2 => some .both
  | _ => none

def pinCode : TrgPin → BitVec 1
  | .trg0 => 0
  | .trg1 => 1

def TriggerKind.code : TriggerKind → BitVec 3
  | .hostOnly => 0
  | .periodic => 1
  | .follow => 2
  | .pin => 3
  | .pwm => 4

def TriggerKind.ofCode (c : BitVec 3) : Option TriggerKind :=
  match c.toNat with
  | 0 => some .hostOnly
  | 1 => some .periodic
  | 2 => some .follow
  | 3 => some .pin
  | 4 => some .pwm
  | _ => none

def WatchKindCode.code : WatchKindCode → BitVec 3
  | .above => 0
  | .below => 1
  | .outside => 2
  | .inside => 3
  | .diffAbove => 4
  | .step => 5

def WatchKindCode.ofCode (c : BitVec 3) : Option WatchKindCode :=
  match c.toNat with
  | 0 => some .above
  | 1 => some .below
  | 2 => some .outside
  | 3 => some .inside
  | 4 => some .diffAbove
  | 5 => some .step
  | _ => none

def LastOutcome.code : LastOutcome → BitVec 3
  | .none => 0
  | .stored => 1
  | .invalid => 2
  | .stale => 3
  | .aborted => 4

def QueueStatus.code : QueueStatus → BitVec 2
  | .notQueued => 0
  | .queued => 1
  | .suspended => 2

def JobStatus.code : JobStatus → BitVec 2
  | .none => 0
  | .active => 1
  | .withdrawn => 2

def RuleState.code : RuleState → BitVec 3
  | .disarmed => 0
  | .clear => 1
  | .pending => 2
  | .tripped => 3
  | .releasing => 4
  | .latched => 5

def Origin.code : Origin → BitVec 3
  | .periodic => 0
  | .pin => 1
  | .pwm => 2
  | .follow => 3
  | .host => 4
  | .snapshot => 5

def Averaging.code : Averaging → BitVec 3
  | .x1 => 0
  | .x2 => 1
  | .x4 => 2
  | .x8 => 3
  | .x16 => 4

def EngineState.code : EngineState → BitVec 2
  | .idle => 0
  | .busy _ => 1
  | .faulted => 2

def ResultState.code : ResultState → BitVec 2
  | .absent => 0
  | .valid => 1
  | .invalid => 2

def FullPolicy.code : FullPolicy → BitVec 1
  | .keepOldest => 0
  | .keepNewest => 1

def RestorePolicy.code : RestorePolicy → BitVec 1
  | .manual => 0
  | .auto => 1

def SwitchState.code : SwitchState → BitVec 3
  | .off => 0
  | .softstart => 1
  | .on => 2
  | .held => 3
  | .ilimWait => 4
  | .lockout => 5

def PwmPolarity.code : PwmPolarity → BitVec 1
  | .activeHigh => 0
  | .activeLow => 1

def IrqPolarity.code : IrqPolarity → BitVec 1
  | .activeLow => 0
  | .activeHigh => 1

def IrqMode.code : IrqMode → BitVec 1
  | .level => 0
  | .pulse => 1

def Mode.code : Mode → BitVec 1
  | .active => 0
  | .guard => 1

def ExitCause.code : ExitCause → BitVec 2
  | .none => 0
  | .host => 1
  | .wake _ => 2

/-- The rule of a wake exit; the absent-field value otherwise (R196). -/
def ExitCause.rule : ExitCause → BitVec 4
  | .wake r => num 4 r
  | .none | .host => 0

def ResetCause.code : ResetCause → BitVec 2
  | .por => 1
  | .pin => 2
  | .soft => 3

/-! ## Words the registers show -/

/-- QUEUE_DEPTH (R37). -/
def RequestQueue.depthWord (q : RequestQueue) : Word :=
  0#3 ++ bit ((q.urgent ++ q.normal).any fun e => e.ctx.isSome) ++ num 6 q.normal.length ++ num 6 q.urgent.length

/-- QUEUE_SEL (R38). -/
def RequestQueue.selWord (q : RequestQueue) : Word := 0#7 ++ q.selList.selCode ++ 0#3 ++ num 5 q.selPos

/-- QUEUE_ENTRY (R38, R196). -/
def entryWord : Option Entry → Word
  | none => 0x8000
  | some e =>
    bit false ++ bit ((e.ctx.map Context.clipped).getD false) ++ num 4 ((e.ctx.map Context.done).getD 0) ++
      bit e.ctx.isSome ++ e.origin.code ++ e.cls.code ++ num 5 e.slot

/-- The enqueue time of a captured entry (R38, R196). -/
def entryEnq : Option Entry → Time
  | none => 0
  | some e => e.enq

/-- The resume context of a captured entry, if it has one. -/
def entryCtx (e : Option Entry) : Option Context := e.bind Entry.ctx

/-- QUEUE_SUM (R38, R196). -/
def entrySum (e : Option Entry) : Word := num 16 (((entryCtx e).map Context.sum).getD 0)

/-- The first-sample time of a captured context entry (R38, R196). -/
def entryFirst (e : Option Entry) : Time := ((entryCtx e).map Context.first).getD 0

/-- ENGINE_JOB (R76, R196). -/
def jobWord : Option EngineState → Word
  | none => 0x0003
  | some (.busy j) =>
    bit j.withdrawn ++ j.avg.code ++ num 4 j.done ++ j.cls.code ++ num 5 j.slot ++ (1 : BitVec 2)
  | some .idle => 0x0000
  | some .faulted => 0x0002

/-- The first-sample time of the captured job (R76, R196). -/
def jobFirst : Option EngineState → Time
  | some (.busy j) => j.first
  | some .idle | some .faulted | none => 0

/-- FAULT_INFO (R76, R196). -/
def faultWord : Option FaultRecord → Word
  | none => 0x0000
  | some f => bit f.withdrawn ++ num 4 (f.sample - 1) ++ num 5 f.input ++ num 5 f.slot ++ bit true

/-- The expiry time of the captured fault record (R76, R196). -/
def faultTime : Option FaultRecord → Time
  | none => 0
  | some f => f.time

/-- RESULT_STATE (R82). -/
def ResultStore.stateWord (r : ResultStore) : Word :=
  0#3 ++ num 5 r.readoutSlot ++ bit r.readout.clipped ++ num 5 r.readout.samples ++ r.readout.state.code

/-- CAP_CTRL (R89). -/
def CaptureFifo.ctrlWord (f : CaptureFifo) : Word := 0#8 ++ num 7 f.watermark ++ f.policy.code

/-- CAP_STATUS (R88). -/
def CaptureFifo.statusWord (f : CaptureFifo) : Word := 0#1 ++ num 8 f.pendingLoss ++ num 7 f.entries.length

/-- CAP_SLOT (R91, R196). -/
def capSlotWord : Option CaptureEntry → Word
  | none => 0x8000
  | some e => 0#3 ++ e.seq ++ num 5 e.slot

/-- CAP_VALUE (R91, R196). -/
def capValueWord : Option CaptureEntry → Word
  | none => 0
  | some e => 0#2 ++ bit e.clipped ++ bit e.invalid ++ e.value

/-- The time of the popped entry (R91, R196). -/
def capTime : Option CaptureEntry → Time
  | none => 0
  | some e => e.time

/-- CAP_GAP (R91, R196). -/
def capGapWord (e : Option CaptureEntry) : Word :=
  match e.bind CaptureEntry.gap with
  | none => 0
  | some g => bit true ++ 0#7 ++ num 8 g

/-- TRIPLOG_STATUS (R124): whether entry 15's overflow count is non-zero, and the number of entries. -/
def TripLog.statusWord (l : TripLog) : Word :=
  0#10 ++ bit ((l.entries[Config.tripLogSize - 1]?).any fun e => e.overflow != 0) ++ num 5 l.entries.length

/-- TRIPLOG_ENTRY (R124, R196). -/
def tripWord : Option TripEntry → Word
  | none => 0x8000
  | some e =>
    0#4 ++ bit ((e.b.map Prod.snd).getD false) ++ bit e.b.isSome ++ bit e.aInvalid ++ num 5 e.aSlot ++ num 4 e.rule

/-- TRIPLOG_AVAL (R124, R196). -/
def tripAVal : Option TripEntry → Word
  | none => 0
  | some e => e.aValue.setWidth 16

/-- TRIPLOG_BVAL (R124, R196). -/
def tripBVal (e : Option TripEntry) : Word :=
  match e.bind TripEntry.b with
  | none => 0
  | some (v, _) => v.setWidth 16

/-- The trip time of the captured entry (R124, R196). -/
def tripTime : Option TripEntry → Time
  | none => 0
  | some e => e.time

/-- TRIPLOG_OVF (R124, R196). -/
def tripOverflow : Option TripEntry → Word
  | none => 0
  | some e => num 16 e.overflow

/-- SW_CFGn (R146). -/
def SwitchConfig.word (c : SwitchConfig) : Word :=
  c.retryDelay ++ 0#1 ++ bit c.lockoutFault ++ c.restore.code ++ c.retryMax ++ c.softStart

/-- SW_STATEn (R146). -/
def Switch.stateWord (w : Switch) : Word :=
  0#8 ++ bit (w.holds != 0) ++ num 3 w.retries ++ bit w.demand ++ w.state.code

/-- PWM_CTRLn (R161). -/
def ChannelConfig.ctrlWord (c : ChannelConfig) : Word := 0#14 ++ c.polarity.code ++ bit c.enable

/-- PWM_STATEn (R161). -/
def Channel.stateWord (x : Channel) : Word :=
  0#9 ++ num 5 x.caps.length ++ bit (x.forces != 0) ++ bit x.running

/-- IRQ_CTRL (R166). -/
def EventUnit.ctrlWord (e : EventUnit) : Word := 0#14 ++ e.irqPolarity.code ++ e.irqMode.code

/-- GUARD_STATUS (R175). -/
def ModeControl.statusWord (m : ModeControl) : Word :=
  0#9 ++ m.lastExit.rule ++ m.lastExit.code ++ m.mode.code

/-- LIVE_RULES (R173). -/
def State.liveRules (s : State) : Word := marks 16 fun n => (s.ruleRt n).state.active

/-- FAULT_RULES (R173). -/
def State.faultRules (s : State) : Word := marks 16 s.ruleFaults

/-- LIVE_SWITCHES (R173). -/
def State.liveSwitches (s : State) : Word :=
  0#4 ++ (s.switch 3).state.code ++ (s.switch 2).state.code ++ (s.switch 1).state.code ++ (s.switch 0).state.code

/-- LIVE_CORE (R173). 11.6.1 says "switch FAULT causes 9–6" and not which bit is whose: that SWn stands in bit 6 + n is the
model's choice (log 24). -/
def State.liveCore (s : State) : Word :=
  0#6 ++ marks 4 s.switchFaults ++ bit s.events.pulse.isSome ++ bit s.events.irq ++ bit s.events.fault ++
    s.mode.mode.code ++ s.engine.state.code

/-- OVR_SUM_LO (R40). -/
def State.overrunLow (s : State) : Word := marks 16 fun n => (s.slotRt (n.castLE (by decide))).overrun != 0

/-- OVR_SUM_HI (R40). -/
def State.overrunHigh (s : State) : Word := marks 16 fun n => (s.slotRt (n.natAdd 16)).overrun != 0

/-! ## Staging registers (11.6.2) -/

/-- STG_SRT. -/
def SlotSnapshot.word (x : SlotSnapshot) : Word :=
  0#1 ++ x.job.code ++ x.queue.code ++ x.outcome.code ++ num 8 x.overrun

/-- STG_WRT_A. -/
def RuleRuntime.word (x : RuleRuntime) : Word :=
  0#6 ++ bit x.lastTrip.isSome ++ bit x.previous.isSome ++ bit x.ackAhead ++ num 4 x.run ++ x.state.code

/-- STG_WRT_PREV; the absent-field value when absent (R196). -/
def RuleRuntime.previousWord (x : RuleRuntime) : Word := (x.previous.getD 0).setWidth 16

/-- The last trip time; the absent-field value when absent (R196). -/
def RuleRuntime.tripTime (x : RuleRuntime) : Time := x.lastTrip.getD 0

/-- The index of a target (STG_STATUS bits 6–2). -/
def Target.index : Target → BitVec 5
  | .slot n => num 5 n
  | .watch n => num 5 n

/-- The kind of a target (STG_STATUS bit 1). -/
def Target.kindCode : Target → BitVec 1
  | .slot _ => 0
  | .watch _ => 1

def StagingState.code : StagingState → BitVec 1
  | .empty => 0
  | .loaded => 1

/-- The staged value a register shows (R7). -/
def Staging.read (g : Staging) : StgReg → Word
  | .slotA => g.slot.cls.code ++ g.slot.avg ++ g.slot.res.code ++ g.slot.acq ++ g.slot.input
  | .slotB =>
    bit g.slot.enabled ++ g.slot.decimation ++ num 2 g.slot.channel ++ g.slot.edge.code ++ pinCode g.slot.pin ++
      bit g.slot.guard ++ bit g.slot.capture ++ g.slot.kind.code
  | .leader => num 16 g.slot.leader
  | .period => g.slot.period
  | .phase => g.slot.phase
  | .watchA => g.watch.srcB ++ g.watch.srcA ++ bit g.watch.bPresent ++ g.watch.kind.code
  | .watchT1 => g.watch.t1.signExtend 16
  | .watchT2 => g.watch.t2.setWidth 16
  | .watchH => g.watch.h.setWidth 16
  | .watchCount =>
    0#2 ++ bit g.watch.pinned ++ bit g.watch.fault ++ bit g.watch.irq ++ bit g.watch.wake ++ bit g.watch.failSafe ++
      bit g.watch.latching ++ g.watch.release ++ g.watch.confirm
  | .watchAct => 0#4 ++ g.watch.capChannel ++ bit g.watch.capPresent ++ g.watch.forceMask ++ g.watch.openMask
  | .watchCapv => g.watch.capValue
  | .watchSnap => 0#9 ++ bit g.watch.snapPresent ++ g.watch.snapSlot

/-- The slot field group after a write of one of its registers (R7): numeric fields take the whole width, an undefined
code leaves its field as it was. -/
def SlotFields.write (f : SlotFields) (r : StgReg) (d : Word) : SlotFields :=
  match r with
  | .slotA =>
    { f with
      cls := if d.getLsbD 15 then .urgent else .normal
      avg := field d 10 5
      res := if d.getLsbD 9 then .bits10 else .bits12
      acq := field d 6 3
      input := field d 0 6 }
  | .slotB =>
    { f with
      enabled := d.getLsbD 15
      decimation := field d 10 5
      channel := (field d 8 2).toFin
      edge := (Edge.ofCode (field d 6 2)).getD f.edge
      pin := if d.getLsbD 5 then .trg1 else .trg0
      guard := d.getLsbD 4
      capture := d.getLsbD 3
      kind := (TriggerKind.ofCode (field d 0 3)).getD f.kind }
  | .leader => { f with leader := (field d 0 5).toFin }
  | .period => { f with period := d }
  | .phase => { f with phase := d }
  | .watchA | .watchT1 | .watchT2 | .watchH | .watchCount | .watchAct | .watchCapv | .watchSnap => f

/-- The watch field group after a write of one of its registers (R7, R97). -/
def WatchFields.write (f : WatchFields) (r : StgReg) (d : Word) : WatchFields :=
  match r with
  | .watchA =>
    { f with
      srcB := field d 10 6
      srcA := field d 4 6
      bPresent := d.getLsbD 3
      kind := (WatchKindCode.ofCode (field d 0 3)).getD f.kind }
  | .watchT1 => { f with t1 := field d 0 13 }
  | .watchT2 => { f with t2 := field d 0 12 }
  | .watchH => { f with h := field d 0 10 }
  | .watchCount =>
    { f with
      pinned := d.getLsbD 13
      fault := d.getLsbD 12
      irq := d.getLsbD 11
      wake := d.getLsbD 10
      failSafe := d.getLsbD 9
      latching := d.getLsbD 8
      release := field d 4 4
      confirm := field d 0 4 }
  | .watchAct =>
    { f with
      capChannel := field d 9 3
      capPresent := d.getLsbD 8
      forceMask := field d 4 4
      openMask := field d 0 4 }
  | .watchCapv => { f with capValue := d }
  | .watchSnap => { f with snapPresent := d.getLsbD 6, snapSlot := field d 0 6 }
  | .slotA | .slotB | .leader | .period | .phase => f

/-- A window write to a staging register changes that register's fields and nothing else (R7). -/
def Staging.write (g : Staging) (r : StgReg) (d : Word) : Staging :=
  { g with slot := g.slot.write r d, watch := g.watch.write r d }

end Sys2Proof.Machine
end

