-- ==== Sys2Proof/Machine/Readout.lean ====
section
/-! DEFINITION. The reads that have an effect of their own (R190), TIME_LO apart: QUEUE_ENTRY, ENGINE_JOB, FAULT_INFO and
RESET_CAUSE. -/

namespace Sys2Proof.Machine

namespace State

/-- R195: an accepted read of RESET_CAUSE clears the reset indication. -/
def clearIndication (s : State) : State := s.setPort { s.port with resetIndication := false }

/-- QUEUE_ENTRY as it reads (R38). -/
def queueEntryValue (s : State) : Word := entryWord s.queue.readout

/-- ENGINE_JOB as it reads (R76). -/
def engineJobValue (s : State) : Word := jobWord s.engine.jobReadout

/-- FAULT_INFO as it reads (R76). -/
def faultInfoValue (s : State) : Word := faultWord s.engine.faultReadout

/-- RESET_CAUSE as it reads (R195). -/
def resetCauseValue (s : State) : Word := s.port.resetCause.code.setWidth 16

end State

/-- QUEUE_ENTRY_READ (R38). -/
def execQueueEntryRead (s : State) : Out :=
  .next (s.hostRead 0x22 State.captureEntry State.queueEntryValue)

/-- ENGINE_JOB_READ (R76). -/
def execEngineJobRead (s : State) : Out :=
  .next (s.hostRead 0x30 State.captureJob State.engineJobValue)

/-- FAULT_INFO_READ (R76). -/
def execFaultInfoRead (s : State) : Out :=
  .next (s.hostRead 0x33 State.captureFault State.faultInfoValue)

/-- RESET_CAUSE_READ (R195). -/
def execResetCauseRead (s : State) : Out :=
  .next (s.hostRead 0x00 State.clearIndication State.resetCauseValue)

end Sys2Proof.Machine
end

