-- ==== Sys2Proof/Machine/Reset.lean ====
section
/-! DEFINITION. The resets (R194, R195), the passing of time (R43), the end of the IRQ pulse and the writes of the event
unit. -/

namespace Sys2Proof.Machine

namespace State

/-- A reset sets every block to its reset values (R194, R195): as State.reset, with the cause, the levels that stand on the
pins, and CSN as it is. The numbering of samples and of choices goes on (log 15), and the commands waiting stay. -/
def resetAll (s : State) (cause : ResetCause) (inReset : Bool) : State :=
  { State.reset with
    triggers := .reset s.triggers.pinLevel
    engine := .reset s.engine.samples
    port := .reset cause s.port.selected inReset
    choices := s.choices
    pending := s.pending }

/-- Some installed record is pinned (R120, R194). -/
def anyPinned (s : State) : Bool := (List.finRange 16).any fun n => (s.rule n).pinned

/-- SOFT_RESET (R194): it begins and ends at the acceptance of its frame. -/
def softReset (s : State) : CommandEnd :=
  if s.anyPinned then .result s .pinned else .reset (s.resetAll .soft false)

/-- POWER_ON_RESET (R195): the reset begins; it ends at RESET_END (log 11). -/
def powerOnReset (s : State) : State := s.resetAll .por true

/-- RESETN_RESET (R195): one that follows a power-on reset before the part begins working leaves POR. -/
def resetnReset (s : State) : State :=
  s.resetAll (if s.port.inReset ∧ s.port.resetCause = .por then .por else .pin) true

/-- RESET_END (R51, R187, R195): the part begins working, and the edge detectors take the levels that stand on the pins. -/
def resetEnd (s : State) : State :=
  if s.port.inReset then
    { s with
      triggers := { s.triggers with pinRef := s.triggers.pinLevel }
      port := { s.port with inReset := false } }
  else s

/-! ## Time -/

/-- The pulse timer loses the time that passes; run out, it waits for its expiry (R169). -/
def tickPulse (e : EventUnit) (micros : Nat) : EventUnit := { e with pulse := e.pulse.map (· - micros) }

/-- R43: the time counter rises by one each microsecond, and every timer that runs loses that time (log 2). -/
def tick (s : State) (micros : Nat) : State :=
  { s with
    triggers := { s.triggers with
      time := s.now + BitVec.ofNat 32 micros
      countdowns := tabulate fun n => (s.countdown n).tick micros }
    switches := tabulate fun n => (s.switch n).tick micros
    pwm := tabulate fun c => (s.channel c).tick micros
    events := tickPulse s.events micros }

/-- TIME_COUNTER_TICK (R43): no time passes for the part while a reset is in progress. -/
def timeTick (s : State) (micros : Nat) : State := if s.port.inReset then s else s.tick micros

/-! ## Event unit -/

/-- EVT_LATCH (R164). -/
def writeEvtLatch (d : Word) (s : State) : State := s.setEvents (s.events.clearLatches d)

/-- EVT_ENABLE (R165). -/
def writeEvtEnable (d : Word) (s : State) : State := s.setEvents (s.events.writeEnables d)

/-- IRQ_CTRL (R166). -/
def writeIrqCtrl (d : Word) (s : State) : State := s.setEvents (s.events.writeCtrl d)

end State

/-- SOFT_RESET (R194). -/
def execSoftReset (arg : Byte) (s : State) : Out := .next (s.hostCommand .softReset arg State.softReset)

/-- POWER_ON_RESET (R195). -/
def execPowerOnReset (s : State) : Out := .next s.powerOnReset

/-- RESETN_RESET (R195). -/
def execResetnReset (s : State) : Out := .next s.resetnReset

/-- RESET_END (R51, R187). -/
def execResetEnd (s : State) : Out := .next s.resetEnd

/-- TIME_COUNTER_TICK (R43). -/
def execTimeCounterTick (micros : Nat) (s : State) : Out := .next (s.timeTick micros)

/-- IRQ_PULSE_EXPIRY (R169). -/
def execIrqPulseExpiry (s : State) : Out := .next (s.setEvents s.events.pulseExpiry)

/-- EVT_LATCH_WRITE (R164). -/
def execEvtLatchWrite (data : Word) (s : State) : Out := .next (s.hostWrite 0xC0 data (State.writeEvtLatch data))

/-- EVT_ENABLE_WRITE (R165). -/
def execEvtEnableWrite (data : Word) (s : State) : Out := .next (s.hostWrite 0xC1 data (State.writeEvtEnable data))

/-- IRQ_CTRL_WRITE (R166). -/
def execIrqCtrlWrite (data : Word) (s : State) : Out := .next (s.hostWrite 0xC2 data (State.writeIrqCtrl data))

end Sys2Proof.Machine
end

