-- ==== Sys2Proof/Machine/Table.lean ====
section
/-! DEFINITION. The staging buffer and the table editor (chapters 1 and 6): LOAD_SLOT, LOAD_WATCH, validation, COMMIT. -/

namespace Sys2Proof.Machine

/-! ## Records and field groups -/

/-- The averaging count a staged number names, if it is 1, 2, 4, 8 or 16 (R12). -/
def Averaging.ofCount (n : BitVec 5) : Option Averaging :=
  match n.toNat with
  | 1 => some .x1
  | 2 => some .x2
  | 4 => some .x4
  | 8 => some .x8
  | 16 => some .x16
  | _ => none

/-- R8: the slot field group of an installed record, absent parameters 0. -/
def SlotRecord.toFields (r : SlotRecord) : SlotFields :=
  let f : SlotFields :=
    { SlotFields.reset with
      enabled := r.enabled
      input := num 6 r.input
      acq := r.acq
      res := r.res
      avg := num 5 r.avg.count
      cls := r.cls
      capture := r.capture
      guard := r.guard }
  match r.trigger with
  | .hostOnly => f
  | .periodic period phase => { f with kind := .periodic, period := period, phase := phase }
  | .follow leader => { f with kind := .follow, leader := leader }
  | .pin pin edge => { f with kind := .pin, pin := pin, edge := edge }
  | .pwm channel decimation => { f with kind := .pwm, channel := channel, decimation := decimation }

/-- R15: the parameters present for the staged kind. -/
def SlotFields.trigger (f : SlotFields) : Trigger :=
  match f.kind with
  | .hostOnly => .hostOnly
  | .periodic => .periodic f.period f.phase
  | .follow => .follow f.leader
  | .pin => .pin f.pin f.edge
  | .pwm => .pwm f.channel f.decimation

/-- R15: the record a field group installs; none where BAD_INPUT or BAD_AVERAGE fails (R12). -/
def SlotFields.toRecord (f : SlotFields) : Option SlotRecord :=
  if h : f.input.toNat < 24 then
    (Averaging.ofCount f.avg).map fun avg =>
      { enabled := f.enabled
        input := ⟨f.input.toNat, h⟩
        acq := f.acq
        res := f.res
        avg := avg
        cls := f.cls
        trigger := f.trigger
        capture := f.capture
        guard := f.guard }
  else none

/-- The slot a staged source names, if it is 0–31 (R97). -/
def slotOf (x : BitVec 6) : Option SlotIx := if h : x.toNat < 32 then some ⟨x.toNat, h⟩ else none

/-- R97: the kind with source B or T2 when the kind has it, and its code. -/
def WatchKind.toCode : WatchKind → WatchKindCode
  | .above => .above
  | .below => .below
  | .outside _ => .outside
  | .inside _ => .inside
  | .diffAbove _ => .diffAbove
  | .step => .step

/-- Threshold T2 of a kind that has one; 0 otherwise (R97). -/
def WatchKind.t2 : WatchKind → Code12
  | .outside t2 | .inside t2 => t2
  | .above | .below | .diffAbove _ | .step => 0

/-- R97: the watch field group of an installed record, absent parts with marker clear and fields 0. -/
def WatchRecord.toFields (r : WatchRecord) : WatchFields where
  kind := r.kind.toCode
  srcA := num 6 r.srcA
  srcB := (r.srcB.map fun b => num 6 b.val).getD 0
  bPresent := r.srcB.isSome
  t1 := r.t1
  t2 := r.kind.t2
  h := r.h
  confirm := r.confirm
  release := r.release
  latching := r.latching
  failSafe := r.failSafe
  wake := r.wake
  irq := r.irq
  fault := r.fault
  pinned := r.pinned
  openMask := r.openMask
  forceMask := r.forceMask
  capPresent := r.cap.isSome
  capChannel := (r.cap.map fun c => num 3 c.1.val).getD 0
  capValue := (r.cap.map Prod.snd).getD 0
  snapPresent := r.snapshot.isSome
  snapSlot := (r.snapshot.map fun n => num 6 n.val).getD 0

namespace WatchFields

/-- R97: the kind a field group installs; none for a DIFF_ABOVE without a legal source B. -/
def watchKind (f : WatchFields) : Option WatchKind :=
  match f.kind with
  | .above => some .above
  | .below => some .below
  | .outside => some (.outside f.t2)
  | .inside => some (.inside f.t2)
  | .diffAbove => if f.bPresent then (slotOf f.srcB).map .diffAbove else none
  | .step => some .step

/-- R97: the cap a field group installs, if it is marked present; none at all for a channel above 3. -/
def capPart (f : WatchFields) : Option (Option (ChIx × Word)) :=
  if f.capPresent then
    if h : f.capChannel.toNat < 4 then some (some (⟨f.capChannel.toNat, h⟩, f.capValue)) else none
  else some none

/-- R97: the snapshot a field group installs, if it is marked present; none at all for a slot above 31. -/
def snapPart (f : WatchFields) : Option (Option SlotIx) :=
  if f.snapPresent then (slotOf f.snapSlot).map some else some none

/-- R103: the record a field group installs; none where BAD_SOURCE, B_REQUIRED or BAD_CAP_CHANNEL fails. -/
def toRecord (f : WatchFields) : Option WatchRecord :=
  match slotOf f.srcA, f.watchKind, f.capPart, f.snapPart with
  | some a, some kind, some cap, some snap =>
    some
      { kind := kind
        srcA := a
        t1 := f.t1
        h := f.h
        confirm := f.confirm
        release := f.release
        latching := f.latching
        failSafe := f.failSafe
        wake := f.wake
        irq := f.irq
        fault := f.fault
        pinned := f.pinned
        openMask := f.openMask
        forceMask := f.forceMask
        cap := cap
        snapshot := snap }
  | _, _, _, _ => none

end WatchFields

/-! ## Validation -/

/-- The validation detail codes, in the order of their checks (R10, R12 to R14, R99 to R101). -/
inductive Detail where
  | none
  | badInput | badAverage | badPeriod | badDecimation | leaderSelf | chainCycle | chainTooLong
  | badSource | bRequired | bNotAllowed | badThreshold | tOrder | emptyReleaseBand | badCount | badCapChannel
  | sourceDisabled
  deriving DecidableEq, Repr

/-- The numbers of the detail codes (11.6.2). -/
def Detail.code : Detail → BitVec 5
  | .none => 0
  | .badInput => 1
  | .badAverage => 2
  | .badPeriod => 3
  | .badDecimation => 4
  | .leaderSelf => 5
  | .chainCycle => 6
  | .chainTooLong => 7
  | .badSource => 8
  | .bRequired => 9
  | .bNotAllowed => 10
  | .badThreshold => 11
  | .tOrder => 12
  | .emptyReleaseBand => 13
  | .badCount => 14
  | .badCapChannel => 15
  | .sourceDisabled => 16

/-- The path of leader relations from a slot upstream to its root, both counted; `fuel` bounds it by the number of slots
(R13: "the installed table holds no loop"). -/
def upstream (leader : SlotIx → Option SlotIx) : Nat → SlotIx → List SlotIx
  | 0, _ => []
  | fuel + 1, k =>
    k :: match leader k with
      | some l => upstream leader fuel l
      | none => []

/-- The leader of a record of kind FOLLOW (R13). -/
def Trigger.leader : Trigger → Option SlotIx
  | .follow l => some l
  | .hostOnly | .periodic _ _ | .pin _ _ | .pwm _ _ => none

/-- The staged leader, when the staged kind is FOLLOW (R13). -/
def SlotFields.leader? (f : SlotFields) : Option SlotIx := f.trigger.leader

/-- R100: the releasing band of R105 holds no value at all. -/
def WatchFields.emptyReleaseBand (f : WatchFields) : Bool :=
  let t1 := f.t1.toInt
  let t2 : Int := f.t2.toNat
  let h : Int := f.h.toNat
  match f.kind with
  | .above => t1 ≤ h
  | .below => 4095 ≤ t1 + h
  | .outside => t2 - h < t1 + h
  | .inside => t1 - h ≤ 0 && 4095 ≤ t2 + h
  | .diffAbove => t1 - h ≤ -4095
  | .step => false

namespace State

/-- R13: the leader relations as they would be with the staged record installed in slot `n`. -/
def leaderAfter (s : State) (n : SlotIx) (f : SlotFields) (k : SlotIx) : Option SlotIx :=
  if k = n then f.leader? else (s.record k).trigger.leader

/-- R13: the walk from the staged leader reaches the target. -/
def closesLoop (s : State) (n : SlotIx) (f : SlotFields) : Bool :=
  match f.leader? with
  | some l => (upstream (s.leaderAfter n f) 32 l).contains n
  | none => false

/-- R14: how many slots stand downstream of `n` on the way to `k`; 0 where `k` is not downstream of `n`. -/
def downstreamTo (leader : SlotIx → Option SlotIx) (n k : SlotIx) : Nat :=
  let path := upstream leader 32 k
  if path.contains n then path.idxOf n else 0

/-- R14: the longest line of slots through the target. -/
def lineLength (s : State) (n : SlotIx) (f : SlotFields) : Nat :=
  let leader := s.leaderAfter n f
  (upstream leader 32 n).length + ((List.finRange 32).map (downstreamTo leader n)).foldl max 0

/-- The slot checks (R12 to R14): the first code whose check fails. -/
def slotDetail (s : State) (n : SlotIx) (f : SlotFields) : Detail :=
  if 24 ≤ f.input.toNat then .badInput
  else if (Averaging.ofCount f.avg).isNone then .badAverage
  else if f.kind = .periodic ∧ f.period = 0 then .badPeriod
  else if f.kind = .pwm ∧ (f.decimation = 0 ∨ 16 < f.decimation.toNat) then .badDecimation
  else if f.leader? = some n then .leaderSelf
  else if s.closesLoop n f then .chainCycle
  else if Config.longestLine < s.lineLength n f then .chainTooLong
  else .none

/-- The installed record of a staged source is DISABLED (R101). -/
def sourceDisabled (s : State) (x : BitVec 6) : Bool :=
  match slotOf x with
  | some n => !(s.record n).enabled
  | none => false

/-- The watch checks (R99 to R101): the first code whose check fails. -/
def watchDetail (s : State) (f : WatchFields) : Detail :=
  let diff := f.kind = .diffAbove
  if (slotOf f.srcA).isNone ∨ (diff ∧ f.bPresent ∧ ((slotOf f.srcB).isNone ∨ f.srcB = f.srcA)) ∨
      (f.snapPresent ∧ (slotOf f.snapSlot).isNone) then .badSource
  else if diff ∧ !f.bPresent then .bRequired
  else if ¬diff ∧ f.bPresent then .bNotAllowed
  else if (¬diff ∧ f.t1.toInt < 0) ∨ (diff ∧ f.t1.toInt = -4096) then .badThreshold
  else if (f.kind = .outside ∨ f.kind = .inside) ∧ (f.t2.toNat : Int) < f.t1.toInt then .tOrder
  else if f.emptyReleaseBand then .emptyReleaseBand
  else if f.confirm = 0 ∨ f.release = 0 then .badCount
  else if f.capPresent ∧ 3 < f.capChannel.toNat then .badCapChannel
  else if f.pinned ∧ (s.sourceDisabled f.srcA ∨ (diff ∧ s.sourceDisabled f.srcB)) then .sourceDisabled
  else .none

/-- The detail field as it reads now (R10). -/
def detail (s : State) : Detail :=
  match s.staging.state, s.staging.target with
  | .empty, _ => .none
  | .loaded, .slot n => s.slotDetail n s.staging.slot
  | .loaded, .watch _ => s.watchDetail s.staging.watch

/-! ## Loading -/

/-- The queue status of slot `n` (R5). -/
def queueStatus (s : State) (n : SlotIx) : QueueStatus :=
  match (s.queue.urgent ++ s.queue.normal).find? fun e => e.slot == n with
  | none => .notQueued
  | some e => if e.ctx.isSome then .suspended else .queued

/-- The job status of slot `n` (R5). -/
def jobStatus (s : State) (n : SlotIx) : JobStatus :=
  match s.engine.state with
  | .busy j => if j.slot = n then (if j.withdrawn then .withdrawn else .active) else .none
  | .idle | .faulted => .none

/-- The runtime snapshot of slot `n` (R5). -/
def slotSnapshot (s : State) (n : SlotIx) : SlotSnapshot where
  overrun := (s.slotRt n).overrun
  outcome := (s.slotRt n).outcome
  queue := s.queueStatus n
  job := s.jobStatus n

/-- LOAD_SLOT (R8). -/
def loadSlot (arg : Byte) (s : State) : CommandEnd :=
  withIndex 32 arg s fun n =>
    .result (s.setStaging { s.staging with
      state := .loaded
      target := .slot n
      slot := (s.record n).toFields
      watch := .reset
      slotSnap := s.slotSnapshot n }) .ok

/-- LOAD_WATCH (R9). -/
def loadWatch (arg : Byte) (s : State) : CommandEnd :=
  withIndex 16 arg s fun n =>
    .result (s.setStaging { s.staging with
      state := .loaded
      target := .watch n
      slot := .reset
      watch := (s.rule n).toFields
      watchSnap := s.ruleRt n }) .ok

/-- STAGING_FIELD_WRITE (R7). -/
def writeStaging (r : StgReg) (d : Word) (s : State) : State := s.setStaging (s.staging.write r d)

/-! ## COMMIT -/

/-- R17: the engine's job of slot `n` is marked withdrawn. -/
def withdrawJob (s : State) (n : SlotIx) : State :=
  match s.engine.state with
  | .busy j => if j.slot = n then s.setEngine (.busy { j with withdrawn := true }) else s
  | .idle | .faulted => s

/-- Installing record `r` for slot `n` with the effects of R16 to R19. -/
def installSlot (s : State) (n : SlotIx) (r : SlotRecord) : State :=
  ((((s.setRecord n r).withdraw fun e => e.slot != n).withdrawJob n).setResult n .reset).restartTriggers n

/-- R15: the staging buffer after a successful slot commit. -/
def stageInstalledSlot (s : State) (n : SlotIx) (r : SlotRecord) : State :=
  s.setStaging { s.staging with slot := r.toFields, slotSnap := s.slotSnapshot n }

/-- COMMIT for target SLOT n, after the checks of state and mode (R11, R15). -/
def commitSlot (s : State) (n : SlotIx) : CommandEnd :=
  if s.pinnedSource n then .result s .pinned
  else
    match s.slotDetail n s.staging.slot, s.staging.slot.toRecord with
    | .none, some r => .result ((s.installSlot n r).stageInstalledSlot n r) .ok
    | _, _ => .result s .invalidRecord

/-- Installing record `r` for rule `n` (R103). -/
def installRule (s : State) (n : RuleIx) (r : WatchRecord) : State :=
  (s.setRule n r).setRuleRt n { RuleRuntime.reset with state := if r.pinned then .clear else .disarmed }

/-- R103: the staging buffer after a successful watch commit. -/
def stageInstalledRule (s : State) (n : RuleIx) (r : WatchRecord) : State :=
  s.setStaging { s.staging with watch := r.toFields, watchSnap := s.ruleRt n }

/-- COMMIT for target WATCH n, after the checks of state and mode (R102, R103). -/
def commitWatch (s : State) (n : RuleIx) : CommandEnd :=
  if (s.ruleRt n).state.active then .result s .ruleActive
  else if (s.rule n).pinned then .result s .pinned
  else
    match s.watchDetail s.staging.watch, s.staging.watch.toRecord with
    | .none, some r => .result ((s.installRule n r).stageInstalledRule n r) .ok
    | _, _ => .result s .invalidRecord

/-- COMMIT (R11, R102). -/
def commit (s : State) : CommandEnd :=
  match s.staging.state, s.mode.mode, s.staging.target with
  | .empty, _, _ => .result s .nothingStaged
  | .loaded, .guard, _ => .result s .guardActive
  | .loaded, .active, .slot n => s.commitSlot n
  | .loaded, .active, .watch n => s.commitWatch n

end State

/-- The address of a writable staging register (11.6.2). -/
def stgAddr : StgReg → Byte
  | .slotA => 0x09
  | .slotB => 0x0A
  | .leader => 0x0B
  | .period => 0x0C
  | .phase => 0x0D
  | .watchA => 0x10
  | .watchT1 => 0x11
  | .watchT2 => 0x12
  | .watchH => 0x13
  | .watchCount => 0x14
  | .watchAct => 0x15
  | .watchCapv => 0x16
  | .watchSnap => 0x17

/-- LOAD_SLOT (R8). -/
def execLoadSlot (n : Byte) (s : State) : Out := .next (s.hostCommand .loadSlot n (State.loadSlot n))

/-- LOAD_WATCH (R9). -/
def execLoadWatch (n : Byte) (s : State) : Out := .next (s.hostCommand .loadWatch n (State.loadWatch n))

/-- COMMIT (R11, R102). -/
def execCommit (arg : Byte) (s : State) : Out := .next (s.hostCommand .commit arg State.commit)

/-- STAGING_FIELD_WRITE (R7). -/
def execStagingFieldWrite (r : StgReg) (data : Word) (s : State) : Out :=
  .next (s.hostWrite (stgAddr r) data (State.writeStaging r data))

end Sys2Proof.Machine
end

