-- ==== Sys2Proof/Machine/Window.lean ====
section
/-! DEFINITION. The register window (11.6): the registers by address, what each reads, what a write of each does, and the
commands by code (R190 to R192). -/

namespace Sys2Proof.Machine

/-- The registers of the window (11.6.1 to 11.6.4). -/
inductive Reg where
  | resetCause | command | cmdResult | timeLo | timeHi
  | stgStatus | staging (r : StgReg) | stgSrt | wrtA | wrtPrev | wrtTrips | wrtTimeLo | wrtTimeHi
  | queueDepth | queueSel | queueEntry | queueEnqLo | queueEnqHi | queueSum | queueFirstLo | queueFirstHi
  | ovrSumLo | ovrSumHi
  | engineJob | engineFirstLo | engineFirstHi | faultInfo | faultTimeLo | faultTimeHi
  | resultSel | resultState | resultValue | resultSeq | resultTimeLo | resultTimeHi
  | capCtrl | capStatus | capSlot | capValue | capTimeLo | capTimeHi | capGap
  | triplogStatus | triplogSel | triplogEntry | triplogAval | triplogBval | triplogTimeLo | triplogTimeHi | triplogOvf
  | swCfg (n : SwIx) | swState (n : SwIx) | swHold (n : SwIx) | swTrips (n : SwIx)
  | pwmCtrl (c : ChIx) | pwmConfig (c : ChIx) (r : PwmReg) | pwmState (c : ChIx) | pwmApplied (c : ChIx)
  | pwmCapmin (c : ChIx) | pwmCapset (c : ChIx) | pwmForce (c : ChIx)
  | evtLatch | evtEnable | irqCtrl | liveRules | faultRules | liveSwitches | liveCore | guardCtrl | guardStatus
  deriving DecidableEq, Repr

/-- The register of switch `n` at `offset` in its group (11.6.1). -/
def Reg.ofSwitch (n : SwIx) (offset : Nat) : Option Reg :=
  match offset with
  | 0 => some (.swCfg n)
  | 1 => some (.swState n)
  | 2 => some (.swHold n)
  | 3 => some (.swTrips n)
  | _ => none

/-- The register of channel `c` at `offset` in its group (11.6.1). -/
def Reg.ofChannel (c : ChIx) (offset : Nat) : Option Reg :=
  match offset with
  | 0x0 => some (.pwmCtrl c)
  | 0x1 => some (.pwmConfig c .period)
  | 0x2 => some (.pwmConfig c .duty)
  | 0x3 => some (.pwmConfig c .trig)
  | 0x4 => some (.pwmState c)
  | 0x5 => some (.pwmApplied c)
  | 0x6 => some (.pwmCapmin c)
  | 0x7 => some (.pwmCapset c)
  | 0x8 => some (.pwmForce c)
  | _ => none

/-- The registers of the groups that stand once, by address (11.6.1 to 11.6.4). -/
def Reg.ofSingle (addr : Nat) : Option Reg :=
  match addr with
  | 0x00 => some .resetCause
  | 0x01 => some .command
  | 0x02 => some .cmdResult
  | 0x04 => some .timeLo
  | 0x05 => some .timeHi
  | 0x08 => some .stgStatus
  | 0x09 => some (.staging .slotA)
  | 0x0A => some (.staging .slotB)
  | 0x0B => some (.staging .leader)
  | 0x0C => some (.staging .period)
  | 0x0D => some (.staging .phase)
  | 0x0E => some .stgSrt
  | 0x10 => some (.staging .watchA)
  | 0x11 => some (.staging .watchT1)
  | 0x12 => some (.staging .watchT2)
  | 0x13 => some (.staging .watchH)
  | 0x14 => some (.staging .watchCount)
  | 0x15 => some (.staging .watchAct)
  | 0x16 => some (.staging .watchCapv)
  | 0x17 => some (.staging .watchSnap)
  | 0x18 => some .wrtA
  | 0x19 => some .wrtPrev
  | 0x1A => some .wrtTrips
  | 0x1B => some .wrtTimeLo
  | 0x1C => some .wrtTimeHi
  | 0x20 => some .queueDepth
  | 0x21 => some .queueSel
  | 0x22 => some .queueEntry
  | 0x23 => some .queueEnqLo
  | 0x24 => some .queueEnqHi
  | 0x25 => some .queueSum
  | 0x26 => some .queueFirstLo
  | 0x27 => some .queueFirstHi
  | 0x28 => some .ovrSumLo
  | 0x29 => some .ovrSumHi
  | 0x30 => some .engineJob
  | 0x31 => some .engineFirstLo
  | 0x32 => some .engineFirstHi
  | 0x33 => some .faultInfo
  | 0x34 => some .faultTimeLo
  | 0x35 => some .faultTimeHi
  | 0x40 => some .resultSel
  | 0x41 => some .resultState
  | 0x42 => some .resultValue
  | 0x43 => some .resultSeq
  | 0x44 => some .resultTimeLo
  | 0x45 => some .resultTimeHi
  | 0x48 => some .capCtrl
  | 0x49 => some .capStatus
  | 0x4A => some .capSlot
  | 0x4B => some .capValue
  | 0x4C => some .capTimeLo
  | 0x4D => some .capTimeHi
  | 0x4E => some .capGap
  | 0x50 => some .triplogStatus
  | 0x51 => some .triplogSel
  | 0x52 => some .triplogEntry
  | 0x53 => some .triplogAval
  | 0x54 => some .triplogBval
  | 0x55 => some .triplogTimeLo
  | 0x56 => some .triplogTimeHi
  | 0x57 => some .triplogOvf
  | 0xC0 => some .evtLatch
  | 0xC1 => some .evtEnable
  | 0xC2 => some .irqCtrl
  | 0xC4 => some .liveRules
  | 0xC5 => some .faultRules
  | 0xC6 => some .liveSwitches
  | 0xC7 => some .liveCore
  | 0xD0 => some .guardCtrl
  | 0xD1 => some .guardStatus
  | _ => none

/-- The register at an address; none where the address is unmapped (11.6). -/
def Reg.ofAddr (addr : Byte) : Option Reg :=
  let a := addr.toNat
  if 0x60 ≤ a ∧ a < 0x70 then Reg.ofSwitch (field addr 2 2).toFin (a % 4)
  else if 0x80 ≤ a ∧ a < 0xC0 then Reg.ofChannel (field addr 4 2).toFin (a % 16)
  else Reg.ofSingle a

/-- The value a read of the register returns (R190). -/
def Reg.value (r : Reg) (s : State) : Word :=
  match r with
  | .resetCause => s.resetCauseValue
  | .command => 0
  | .cmdResult => s.port.cmdCode ++ s.port.cmdResult
  | .timeLo => lo s.triggers.timeCapture
  | .timeHi => hi s.triggers.timeCapture
  | .stgStatus =>
    0#3 ++ s.detail.code ++ 0#1 ++ s.staging.target.index ++ s.staging.target.kindCode ++ s.staging.state.code
  | .staging r => s.staging.read r
  | .stgSrt => s.staging.slotSnap.word
  | .wrtA => s.staging.watchSnap.word
  | .wrtPrev => s.staging.watchSnap.previousWord
  | .wrtTrips => num 16 s.staging.watchSnap.trips
  | .wrtTimeLo => lo s.staging.watchSnap.tripTime
  | .wrtTimeHi => hi s.staging.watchSnap.tripTime
  | .queueDepth => s.queue.depthWord
  | .queueSel => s.queue.selWord
  | .queueEntry => s.queueEntryValue
  | .queueEnqLo => lo (entryEnq s.queue.readout)
  | .queueEnqHi => hi (entryEnq s.queue.readout)
  | .queueSum => entrySum s.queue.readout
  | .queueFirstLo => lo (entryFirst s.queue.readout)
  | .queueFirstHi => hi (entryFirst s.queue.readout)
  | .ovrSumLo => s.overrunLow
  | .ovrSumHi => s.overrunHigh
  | .engineJob => s.engineJobValue
  | .engineFirstLo => lo (jobFirst s.engine.jobReadout)
  | .engineFirstHi => hi (jobFirst s.engine.jobReadout)
  | .faultInfo => s.faultInfoValue
  | .faultTimeLo => lo (faultTime s.engine.faultReadout)
  | .faultTimeHi => hi (faultTime s.engine.faultReadout)
  | .resultSel => num 16 s.results.sel
  | .resultState => s.results.stateWord
  | .resultValue => s.results.readout.value.setWidth 16
  | .resultSeq => s.results.readout.seq.setWidth 16
  | .resultTimeLo => lo s.results.readout.time
  | .resultTimeHi => hi s.results.readout.time
  | .capCtrl => s.fifo.ctrlWord
  | .capStatus => s.fifo.statusWord
  | .capSlot => capSlotWord s.fifo.readout
  | .capValue => capValueWord s.fifo.readout
  | .capTimeLo => lo (capTime s.fifo.readout)
  | .capTimeHi => hi (capTime s.fifo.readout)
  | .capGap => capGapWord s.fifo.readout
  | .triplogStatus => s.tripLog.statusWord
  | .triplogSel => num 16 s.tripLog.sel
  | .triplogEntry => tripWord s.tripLog.readout
  | .triplogAval => tripAVal s.tripLog.readout
  | .triplogBval => tripBVal s.tripLog.readout
  | .triplogTimeLo => lo (tripTime s.tripLog.readout)
  | .triplogTimeHi => hi (tripTime s.tripLog.readout)
  | .triplogOvf => tripOverflow s.tripLog.readout
  | .swCfg n => (s.switch n).cfg.word
  | .swState n => (s.switch n).stateWord
  | .swHold n => (s.switch n).holds
  | .swTrips n => num 16 (s.switch n).trips
  | .pwmCtrl c => (s.channel c).cfg.ctrlWord
  | .pwmConfig c .period => (s.channel c).cfg.period
  | .pwmConfig c .duty => (s.channel c).cfg.duty
  | .pwmConfig c .trig => (s.channel c).cfg.trig
  | .pwmState c => (s.channel c).stateWord
  | .pwmApplied c => (s.channel c).duty
  | .pwmCapmin c => (s.channel c).capMin
  | .pwmCapset c => (s.channel c).capSet
  | .pwmForce c => (s.channel c).forces
  | .evtLatch => s.events.latches.setWidth 16
  | .evtEnable => s.events.enables.setWidth 16
  | .irqCtrl => s.events.ctrlWord
  | .liveRules => s.liveRules
  | .faultRules => s.faultRules
  | .liveSwitches => s.liveSwitches
  | .liveCore => s.liveCore
  | .guardCtrl => s.mode.stretch.setWidth 16
  | .guardStatus => s.mode.statusWord

/-- The effect of an accepted read besides its answer (R190): none, but for the captures and RESET_CAUSE. -/
def Reg.readEffect (r : Reg) (s : State) : State :=
  match r with
  | .timeLo => s.captureTime
  | .queueEntry => s.captureEntry
  | .engineJob => s.captureJob
  | .faultInfo => s.captureFault
  | .resetCause => s.clearIndication
  | _ => s

/-- What an accepted write stores, for the registers that can be written; COMMAND is apart (R191, R192). -/
def Reg.writeEffect (r : Reg) (d : Word) : Option (State → State) :=
  match r with
  | .staging r => some (State.writeStaging r d)
  | .queueSel => some fun s => s.writeQueueSel d
  | .resultSel => some (State.writeResultSel d)
  | .capCtrl => some (State.writeCapCtrl d)
  | .triplogSel => some (State.writeTriplogSel d)
  | .swCfg n => some (State.writeSwCfg n d)
  | .swTrips n => some (State.clearSwTrips n)
  | .pwmCtrl c => some (State.writePwmCtrl c d)
  | .pwmConfig c r => some (State.writePwmConfig c r d)
  | .evtLatch => some (State.writeEvtLatch d)
  | .evtEnable => some (State.writeEvtEnable d)
  | .irqCtrl => some (State.writeIrqCtrl d)
  | .guardCtrl => some (State.writeGuardCtrl d)
  | _ => none

/-- What each command does, with its argument (11.6.5); a command that takes no argument ignores it (R192). -/
def Command.effect (c : Command) (arg : Byte) : State → CommandEnd :=
  match c with
  | .loadSlot => State.loadSlot arg
  | .loadWatch => State.loadWatch arg
  | .commit => State.commit
  | .trigger => State.trigger arg
  | .abort => State.abort
  | .restartConverter => State.restartConverter
  | .clearSlotStats => State.clearSlotStats arg
  | .capturePop => State.capturePop
  | .captureFlush => State.captureFlush
  | .arm => State.arm arg
  | .disarm => State.disarm arg
  | .ack => State.ack arg
  | .triplogClear => State.triplogClear
  | .swOn => State.swOn arg
  | .swOff => State.swOff arg
  | .swClear => State.swClear arg
  | .guardEnter => State.guardEnter
  | .guardExit => State.guardExit
  | .softReset => State.softReset

/-- The effect of a write of COMMAND: a code that names no command leaves every block unchanged (R192). -/
def commandEffect (code arg : Byte) : State → CommandEnd :=
  match Command.ofCode code with
  | some c => c.effect arg
  | none => fun s => .result s .unknownCommand

namespace State

/-- An accepted read (R190); an unmapped address reads 0000h. -/
def windowRead (s : State) (addr : Byte) : State :=
  match Reg.ofAddr addr with
  | some r => s.takeRead addr r.readEffect r.value
  | none => s.respond addr 0

/-- An accepted write (R191, R192); one to a read-only or unmapped address is ignored and answered with the complement. -/
def windowWrite (s : State) (addr : Byte) (d : Word) : State :=
  match Reg.ofAddr addr with
  | some .command => s.takeCommand (field d 8 8) (field d 0 8) (commandEffect (field d 8 8) (field d 0 8))
  | some r =>
    match r.writeEffect d with
    | some f => s.takeWrite addr d f
    | none => s.respond addr (~~~d)
  | none => s.respond addr (~~~d)

end State

end Sys2Proof.Machine
end

