-- ==== Sys2Proof/Machine/Port.lean ====
section
/-! DEFINITION. Frames (11.1, 11.2): the check, judging, the response shifted out, and the rows REGISTER_WRITE and
UNKNOWN_COMMAND. -/

namespace Sys2Proof.Machine

/-- R186: one step of the check register: shifted up, and combined with 0011b when the incoming bit and the top bit
differ. -/
def checkStep (r : BitVec 4) (b : Bool) : BitVec 4 :=
  if (b ^^ r.getLsbD 3) then (r <<< 1) ^^^ 0b0011#4 else r <<< 1

/-- R186: the check over bits 31–4 of a frame, bit 31 first, from 1111b. -/
def check (x : BitVec 28) : BitVec 4 :=
  (List.finRange 28).foldl (fun r i => checkStep r (x.getLsbD (27 - i.val))) 0b1111#4

/-- A 28-bit content with its check (R186, R188). -/
def withCheck (x : BitVec 28) : BitVec 32 := x ++ check x

/-- R186: a frame whose check holds and whose bits 30–28 are 000b is accepted. -/
def frameAccepted (w : BitVec 32) : Bool := field w 0 4 == check (field w 4 28) && field w 28 3 == 0

/-- R188, R189: the response as it is shifted out. -/
def Response.word (r : Response) : BitVec 32 :=
  withCheck (bit r.rej ++ bit r.rst ++ bit r.irq ++ bit r.flt ++ r.addr ++ r.data)

namespace State

/-- R187: a rejected frame has no effect but FRAME_REJECTED and its response. -/
def rejectFrame (s : State) : State := (s.occur .frameRejected).respondRejected

/-- The access an accepted frame carries (R186): W in bit 31, address in bits 27–20, data in bits 19–4. -/
def frameAccess (s : State) (w : BitVec 32) : State :=
  if w.getLsbD 31 then s.windowWrite (field w 20 8) (field w 4 16) else s.windowRead (field w 20 8)

/-- A frame is judged at its 32nd bit (R186, R187). -/
def judgeFrame (s : State) (w : BitVec 32) : State :=
  if frameAccepted w then s.frameAccess w else s.rejectFrame

/-- What SDO has carried: the first `bits` bits of the response kept before this frame (R188). -/
def shiftOut (s : State) (r : Response) (bits : Nat) : State :=
  s.setPort { s.port with shifted := ⟨r.word, bits⟩ }

def setSelected (s : State) (b : Bool) : State := s.setPort { s.port with selected := b }

/-- FRAME (R186): CSN falls and 32 bits are clocked. While a reset is in progress, and while CSN has not risen since,
the bits are ignored (R187). -/
def frame (s : State) (w : BitVec 32) : State :=
  if s.port.inReset then s.setSelected true
  else if s.port.selected then s
  else ((s.judgeFrame w).shiftOut s.port.response 32).setSelected true

/-- FRAME_CUT_SHORT (R187): CSN rises before the 32nd bit; ignored like FRAME where a reset or an ignored select stands. -/
def frameCutShort (s : State) (bits : Fin 32) : State :=
  if s.port.inReset ∨ s.port.selected then s.setSelected false
  else (s.rejectFrame.shiftOut s.port.response bits).setSelected false

end State

/-- FRAME (R186). -/
def execFrame (w : BitVec 32) (s : State) : Out := .next (s.frame w)

/-- FRAME_CUT_SHORT (R187). -/
def execFrameCutShort (bits : Fin 32) (s : State) : Out := .next (s.frameCutShort bits)

/-- CSN_RISE (R186): a new frame can begin at the next fall of CSN. -/
def execCsnRise (s : State) : Out := .next (s.setSelected false)

/-- REGISTER_WRITE (R191): the accepted frame that writes this address (log 9). -/
def execRegisterWrite (addr : Byte) (data : Word) (s : State) : Out :=
  .next (s.hostAccess fun t => t.windowWrite addr data)

/-- UNKNOWN_COMMAND (R192): the accepted frame that writes COMMAND with this code and argument (log 9). -/
def execUnknownCommand (code arg : Byte) (s : State) : Out :=
  .next (s.hostAccess fun t => t.takeCommand code arg (commandEffect code arg))

end Sys2Proof.Machine
end

