-- ==== Sys2Proof/Machine/Dispatch.lean ====
section
/-! DEFINITION. One arm for each command of the table: the one direct call of its meaning. -/

namespace Sys2Proof.Machine

def exec (i : Instr) (s : State) : Host.Outcome State Fault Refusal :=
  match i with
  | .frame w => Sys2Proof.Machine.execFrame w s
  | .frameCutShort bits => Sys2Proof.Machine.execFrameCutShort bits s
  | .registerWrite addr data => Sys2Proof.Machine.execRegisterWrite addr data s
  | .unknownCommand code arg => Sys2Proof.Machine.execUnknownCommand code arg s
  | .loadSlot n => Sys2Proof.Machine.execLoadSlot n s
  | .loadWatch n => Sys2Proof.Machine.execLoadWatch n s
  | .commit arg => Sys2Proof.Machine.execCommit arg s
  | .stagingFieldWrite r data => Sys2Proof.Machine.execStagingFieldWrite r data s
  | .trigger n => Sys2Proof.Machine.execTrigger n s
  | .sampleCompletion sample raw => Sys2Proof.Machine.execSampleCompletion sample raw s
  | .deadlineExpiry => Sys2Proof.Machine.execDeadlineExpiry s
  | .abort arg => Sys2Proof.Machine.execAbort arg s
  | .restartConverter arg => Sys2Proof.Machine.execRestartConverter arg s
  | .clearSlotStats n => Sys2Proof.Machine.execClearSlotStats n s
  | .timeCounterTick micros => Sys2Proof.Machine.execTimeCounterTick micros s
  | .timeLoRead => Sys2Proof.Machine.execTimeLoRead s
  | .periodicExpiry n => Sys2Proof.Machine.execPeriodicExpiry n s
  | .trgEdge pin level => Sys2Proof.Machine.execTrgEdge pin level s
  | .pwmTriggerPoint c => Sys2Proof.Machine.execPwmTriggerPoint c s
  | .capturePop arg => Sys2Proof.Machine.execCapturePop arg s
  | .captureFlush arg => Sys2Proof.Machine.execCaptureFlush arg s
  | .capCtrlWrite data => Sys2Proof.Machine.execCapCtrlWrite data s
  | .resultSelWrite data => Sys2Proof.Machine.execResultSelWrite data s
  | .queueEntryRead => Sys2Proof.Machine.execQueueEntryRead s
  | .engineJobRead => Sys2Proof.Machine.execEngineJobRead s
  | .faultInfoRead => Sys2Proof.Machine.execFaultInfoRead s
  | .ack n => Sys2Proof.Machine.execAck n s
  | .arm n => Sys2Proof.Machine.execArm n s
  | .disarm n => Sys2Proof.Machine.execDisarm n s
  | .triplogClear arg => Sys2Proof.Machine.execTriplogClear arg s
  | .triplogSelWrite data => Sys2Proof.Machine.execTriplogSelWrite data s
  | .swOn n => Sys2Proof.Machine.execSwOn n s
  | .swOff n => Sys2Proof.Machine.execSwOff n s
  | .swClear n => Sys2Proof.Machine.execSwClear n s
  | .softStartExpiry n => Sys2Proof.Machine.execSoftStartExpiry n s
  | .refillExpiry n => Sys2Proof.Machine.execRefillExpiry n s
  | .retryExpiry n => Sys2Proof.Machine.execRetryExpiry n s
  | .currentLimit n => Sys2Proof.Machine.execCurrentLimit n s
  | .swCfgWrite n data => Sys2Proof.Machine.execSwCfgWrite n data s
  | .swTripsWrite n data => Sys2Proof.Machine.execSwTripsWrite n data s
  | .pwmPeriodStart c => Sys2Proof.Machine.execPwmPeriodStart c s
  | .pwmDutyEnd c => Sys2Proof.Machine.execPwmDutyEnd c s
  | .pwmCtrlWrite c data => Sys2Proof.Machine.execPwmCtrlWrite c data s
  | .pwmConfigWrite c r data => Sys2Proof.Machine.execPwmConfigWrite c r data s
  | .irqPulseExpiry => Sys2Proof.Machine.execIrqPulseExpiry s
  | .evtLatchWrite data => Sys2Proof.Machine.execEvtLatchWrite data s
  | .evtEnableWrite data => Sys2Proof.Machine.execEvtEnableWrite data s
  | .irqCtrlWrite data => Sys2Proof.Machine.execIrqCtrlWrite data s
  | .guardEnter arg => Sys2Proof.Machine.execGuardEnter arg s
  | .guardExit arg => Sys2Proof.Machine.execGuardExit arg s
  | .softReset arg => Sys2Proof.Machine.execSoftReset arg s
  | .powerOnReset => Sys2Proof.Machine.execPowerOnReset s
  | .resetnReset => Sys2Proof.Machine.execResetnReset s
  | .resetEnd => Sys2Proof.Machine.execResetEnd s
  | .resetCauseRead => Sys2Proof.Machine.execResetCauseRead s
  | .csnRise => Sys2Proof.Machine.execCsnRise s

end Sys2Proof.Machine
end

