-- ==== Sys2Proof/Safety.lean ====
section
/-! DEFINITION. What the spec says always holds, block by block: the laws that every step keeps. -/

namespace Sys2Proof.Safety

open Sys2Proof.Machine

/-! ## What a step leaves alone -/

/-- The blocks of the state. -/
inductive Block where
  | slots | staging | triggers | queue | engine | results | fifo | watch | tripLog | switches | pwm | events | mode | port
  | choices | pending
  deriving DecidableEq, Repr

/-- Block `b` is the same in both states. -/
def Block.Same (s t : State) : Block → Prop
  | .slots => t.slots = s.slots
  | .staging => t.staging = s.staging
  | .triggers => t.triggers = s.triggers
  | .queue => t.queue = s.queue
  | .engine => t.engine = s.engine
  | .results => t.results = s.results
  | .fifo => t.fifo = s.fifo
  | .watch => t.watch = s.watch
  | .tripLog => t.tripLog = s.tripLog
  | .switches => t.switches = s.switches
  | .pwm => t.pwm = s.pwm
  | .events => t.events = s.events
  | .mode => t.mode = s.mode
  | .port => t.port = s.port
  | .choices => t.choices = s.choices
  | .pending => t.pending = s.pending

/-- Every block but those named is the same in both states. -/
structure Within (bs : List Block) (s t : State) : Prop where
  same : ∀ b, b ∉ bs → b.Same s t

/-- The blocks a command can change beside its result, response and refusal latch. -/
def commandBlocks : Command → List Block
  | .loadSlot | .loadWatch => [.staging]
  | .commit => [.staging, .watch, .results, .triggers, .slots, .queue, .engine, .events]
  | .trigger => [.slots, .queue, .engine, .events]
  | .abort => [.slots, .queue, .engine]
  | .restartConverter => [.queue, .engine]
  | .clearSlotStats => [.slots]
  | .capturePop | .captureFlush => [.fifo]
  | .arm => [.watch]
  | .disarm | .ack => [.watch, .switches, .pwm, .events]
  | .triplogClear => [.tripLog]
  | .swOn | .swOff => [.switches]
  | .swClear => [.switches, .events]
  | .guardEnter => [.mode, .queue, .triggers, .pwm, .slots, .engine]
  | .guardExit => [.mode, .events, .triggers, .pwm, .choices, .slots, .queue, .engine]
  | .softReset =>
    [.slots, .staging, .triggers, .queue, .engine, .results, .fifo, .watch, .tripLog, .switches, .pwm, .events, .mode,
      .port]

/-- The blocks a register write can change beside its response; none for a register that cannot be written. -/
def writeBlocks : Reg → List Block
  | .staging _ => [.staging]
  | .queueSel => [.queue]
  | .resultSel => [.results]
  | .capCtrl => [.fifo]
  | .triplogSel => [.tripLog]
  | .swCfg _ => [.switches, .events]
  | .swTrips _ => [.switches]
  | .pwmCtrl _ => [.pwm, .triggers, .slots, .queue, .engine, .events]
  | .pwmConfig _ _ => [.pwm]
  | .evtLatch | .evtEnable | .irqCtrl => [.events]
  | .guardCtrl => [.mode]
  | _ => []

/-! ## Queue and engine (R21, R22, R28, R30, R33, R60) -/

/-- The entries of both sub-lists, URGENT first. -/
abbrev entries (s : State) : List Entry := s.queue.urgent ++ s.queue.normal

/-- R22: no two entries for one slot; each stands in the sub-list of its class, which is its slot's installed class. -/
abbrev QueueShape (s : State) : Prop :=
  ((entries s).map Entry.slot).Nodup ∧
    (∀ e ∈ s.queue.urgent, e.cls = .urgent) ∧ (∀ e ∈ s.queue.normal, e.cls = .normal) ∧
      ∀ e ∈ entries s, e.cls = (s.record e.slot).cls

/-- R21, R33: a resume context stands only on the head of NORMAL, holds a part of the slot's burst, and has 1 to 15 samples
of at most 4095 each. -/
abbrev ContextShape (s : State) : Prop :=
  (∀ e ∈ s.queue.urgent ++ s.queue.normal.tail, e.ctx = none) ∧
    ∀ e ∈ s.queue.normal, ∀ c ∈ e.ctx,
      1 ≤ c.done ∧ c.done < (s.record e.slot).avg.count ∧ c.sum ≤ 4095 * c.done

/-- R33: while a context waits, the job in the engine is URGENT and of another slot. -/
abbrev ContextApart (s : State) (j : Job) : Prop :=
  ∀ e ∈ s.queue.normal, e.ctx.isSome → j.cls = .urgent ∧ j.slot ≠ e.slot

/-- R60: a job has samples left to run and a bounded sum; while not withdrawn it is ruled by its slot's installed record
(R17, R31). -/
abbrev JobShape (s : State) (j : Job) : Prop :=
  j.done < j.avg.count ∧ j.sum ≤ 4095 * j.done ∧
    (j.withdrawn = false → j.cls = (s.record j.slot).cls ∧ j.input = (s.record j.slot).input ∧
      j.acq = (s.record j.slot).acq ∧ j.res = (s.record j.slot).res ∧ j.avg = (s.record j.slot).avg)

/-- R30: an IDLE engine finds the queue empty; R60: a job as above. -/
def EngineShape (s : State) : Prop :=
  match s.engine.state with
  | .idle => s.queue.urgent = [] ∧ s.queue.normal = []
  | .busy j => JobShape s j ∧ ContextApart s j
  | .faulted => True

/-- R28: while the mode is GUARD, every queue entry and every job belongs to a slot with the guard attribute. -/
def GuardLaw (s : State) : Prop :=
  s.mode.mode = .guard →
    (∀ e ∈ entries s, (s.record e.slot).guard = true) ∧
      ∀ j, s.engine.state = .busy j → (s.record j.slot).guard = true

/-- The laws of the request queue and the engine together. -/
def QueueLaw (s : State) : Prop := QueueShape s ∧ ContextShape s ∧ EngineShape s ∧ GuardLaw s

/-! ## Slot table (R1, R2, R4, R13, R14) -/

/-- R13: the leader relations of the installed table. -/
def installedLeader (s : State) (n : SlotIx) : Option SlotIx := (s.record n).trigger.leader

/-- R2: the parameters of an installed trigger are in their ranges. -/
def TriggerRange : Trigger → Prop
  | .periodic period _ => 1 ≤ period.toNat
  | .pwm _ decimation => 1 ≤ decimation.toNat ∧ decimation.toNat ≤ 16
  | .hostOnly | .follow _ | .pin _ _ => True

/-- R14: no installed line holds more than 5 slots, and so none closes a loop (R13). -/
def LineLaw (s : State) : Prop := ∀ n, (upstream (installedLeader s) 32 n).length ≤ Config.longestLine

/-- R2, R4, R14 of the slot table. -/
def TableLaw (s : State) : Prop :=
  (∀ n, TriggerRange (s.record n).trigger) ∧ (∀ n, (s.slotRt n).overrun ≤ 255) ∧ LineLaw s

/-! ## Trigger sources (R46, R49, R53) -/

/-- The trigger kind is PERIODIC. -/
def isPeriodic : Trigger → Bool
  | .periodic _ _ => true
  | .hostOnly | .follow _ | .pin _ _ | .pwm _ _ => false

/-- R46, R49: a countdown runs only for an ENABLED PERIODIC slot, is frozen only in GUARD and only for a slot without the
guard attribute, and stands at 0 when stopped. -/
def CountdownLaw (s : State) (n : SlotIx) : Prop :=
  (s.countdown n).left ≤ 41942400 ∧
    match (s.countdown n).state with
    | .stopped => (s.countdown n).left = 0
    | .running =>
      (s.record n).enabled = true ∧ isPeriodic (s.record n).trigger = true ∧
        (s.mode.mode = .guard → (s.record n).guard = true)
    | .frozen =>
      (s.record n).enabled = true ∧ isPeriodic (s.record n).trigger = true ∧
        s.mode.mode = .guard ∧ (s.record n).guard = false

/-- R53: a decimation counter stays below the decimation of its slot, and at 0 for every other slot. -/
def DecimLaw (s : State) (n : SlotIx) : Prop :=
  match (s.record n).trigger with
  | .pwm _ decimation => s.decim n < decimation.toNat ∧ decimation.toNat ≤ 16
  | .hostOnly | .periodic _ _ | .follow _ | .pin _ _ => s.decim n = 0

def TriggerLaw (s : State) : Prop := ∀ n, CountdownLaw s n ∧ DecimLaw s n

/-! ## Watch rules and their claims (R98, R109, R112, R120, R171) -/

/-- R109: the run count agrees with the state; R116: ack-ahead stands only on a latching rule that is TRIPPED or
RELEASING. -/
abbrev RunLaw (r : WatchRecord) (x : RuleRuntime) : Prop :=
  (match x.state with
    | .pending => 1 ≤ x.run ∧ x.run < r.confirm.toNat
    | .releasing => 1 ≤ x.run ∧ x.run < r.release.toNat
    | .disarmed | .clear | .tripped | .latched => x.run = 0) ∧
    (x.ackAhead = true → r.latching = true ∧ (x.state = .tripped ∨ x.state = .releasing)) ∧ x.trips ≤ 255

/-- R112: a rule is in a switch's hold set exactly when it is active and its open mask names that switch. -/
def HoldLaw (s : State) : Prop :=
  ∀ (n : RuleIx) (k : SwIx), (s.switch k).holds.getLsbD n = ((s.ruleRt n).state.active && (s.rule n).openMask.getLsbD k)

/-- R112, R149: a rule is in a channel's force set exactly when it is active and its force mask names that channel. -/
def ForceLaw (s : State) : Prop :=
  ∀ (n : RuleIx) (c : ChIx), (s.channel c).forces.getLsbD n = ((s.ruleRt n).state.active && (s.rule n).forceMask.getLsbD c)

/-- R112, R149: the cap list of a channel holds exactly the caps of the active rules that name it, one a rule. -/
def CapLaw (s : State) : Prop :=
  ∀ c, ((s.channel c).caps.map Prod.fst).Nodup ∧
    ∀ n v, (n, v) ∈ (s.channel c).caps ↔ (s.ruleRt n).state.active = true ∧ (s.rule n).cap = some (c, v)

/-- The run counts and claims of all rules. -/
def RuleLaw (s : State) : Prop := (∀ n, RunLaw (s.rule n) (s.ruleRt n)) ∧ HoldLaw s ∧ ForceLaw s ∧ CapLaw s

/-- R120: a pinned rule is never DISARMED and its source slots remain ENABLED. -/
def PinnedLaw (s : State) : Prop :=
  ∀ n, (s.rule n).pinned = true →
    (s.ruleRt n).state ≠ .disarmed ∧ (s.record (s.rule n).srcA).enabled = true ∧
      ∀ b, (s.rule n).kind = .diffAbove b → (s.record b).enabled = true

/-- R171: FAULT is asserted exactly when some fault-attributed rule is active or some lockout-fault switch is in LOCKOUT. -/
def FaultLaw (s : State) : Prop :=
  s.events.fault = true ↔
    (∃ n, (s.ruleRt n).state.active = true ∧ (s.rule n).fault = true) ∨
      ∃ k, (s.switch k).state = .lockout ∧ (s.switch k).cfg.lockoutFault = true

/-! ## Load switches (R128, R143) -/

/-- The timer that runs in a state (R128). -/
def timerOf : SwitchState → Option TimerKind
  | .softstart => some .softStart
  | .on => some .refill
  | .ilimWait => some .retry
  | .off | .held | .lockout => none

/-- R128: demand, hold set and timer agree with the state; R127, R143: counts stay in their ranges, and retry remaining
never exceeds the retry maximum. -/
def SwitchLaw (w : Switch) : Prop :=
  w.timer.map SwitchTimer.kind = timerOf w.state ∧
    w.retries ≤ w.cfg.retryMax.toNat ∧ w.trips ≤ 255 ∧ 1 ≤ w.cfg.retryDelay.toNat ∧
      match w.state with
      | .off => w.demand = false
      | .softstart | .on | .ilimWait => w.demand = true ∧ w.holds = 0
      | .held => w.demand = true ∧ w.holds ≠ 0
      | .lockout => w.retries = 0

/-! ## PWM channels (R148, R149, R159) -/

/-- R149: the applied duty never exceeds the smallest cap, is 0 while the force set is not empty and in STOPPED; the
position stays below the applied period. In STOPPED the model's own `trigDone` and `owed` are clear. -/
def ChannelLaw (x : Channel) : Prop :=
  2 ≤ x.cfg.period.toNat ∧ 2 ≤ x.period.toNat ∧ x.position < x.period.toNat ∧
    (∀ c ∈ x.caps, x.duty.toNat ≤ c.2.toNat) ∧ (x.forces ≠ 0 → x.duty = 0) ∧
      (x.running = false → x.position = 0 ∧ x.duty = 0 ∧ x.trigDone = false ∧ x.owed = 0)

/-- R148, R154, R160: a channel runs exactly when it is enabled and the mode is ACTIVE. -/
def PwmLaw (s : State) : Prop :=
  ∀ c, ChannelLaw (s.channel c) ∧
    (s.channel c).running = ((s.channel c).cfg.enable && (s.mode.mode == .active))

/-! ## Stores (R78, R83, R84, R122) -/

/-- R83, R84: the FIFO holds at most 64 entries, each gap is 1 to 255, and the counts stay in their ranges. -/
def FifoLaw (f : CaptureFifo) : Prop :=
  f.entries.length ≤ Config.fifoSize ∧ f.pendingLoss ≤ 255 ∧ 1 ≤ f.watermark ∧ f.watermark ≤ Config.fifoSize ∧
    ∀ e ∈ f.entries, ∀ g ∈ e.gap, 1 ≤ g ∧ g ≤ 255

/-- R122: the log holds at most 16 entries, and only entry 15 can have an overflow count, of at most 255. -/
def TripLogLaw (l : TripLog) : Prop :=
  l.entries.length ≤ Config.tripLogSize ∧
    ∀ i e, l.entries[i]? = some e → e.overflow ≤ 255 ∧ (i ≠ Config.tripLogSize - 1 → e.overflow = 0)

/-- R78: an ABSENT record reads 0 throughout, an INVALID one has value 0 and at most 15 samples. -/
def ResultLaw (r : ResultRecord) : Prop :=
  r.samples ≤ 16 ∧ (r.state = .absent → r = .reset) ∧ (r.state = .invalid → r.value = 0 ∧ r.samples ≤ 15)

/-! ## Accesses of the host (R186 to R193) -/

/-- No reset is in progress, so the port takes frames (R187). -/
abbrev Ready (s : State) : Prop := s.port.inReset = false

/-- The state once the response to an accepted frame has been formed on `t` (R188, R189). -/
def answered (t : State) (addr : Byte) (data : Word) : State :=
  { t with port := { t.port with
    response :=
      { rej := false, rst := t.port.resetIndication, irq := t.events.irq, flt := t.events.fault, addr := addr,
        data := data } } }

/-- The state once a command whose effect left `t` has ended with result `r`: a refusal latches COMMAND_REFUSED, CMD_RESULT
takes both codes, and the response echoes the data written (R191 to R193). -/
def finished (t : State) (code arg : Byte) (r : ResultCode) : State :=
  let u := if r.isRefusal then t.occur .commandRefused else t
  answered { u with port := { u.port with cmdCode := code, cmdResult := r.code } } 0x01 (code ++ arg)

/-- The accepted frame that writes `data` at `addr` (R186). -/
def writeFrame (addr : Byte) (data : Word) : BitVec 32 := withCheck (0b1000#4 ++ addr ++ data)

/-- Read as a polynomial over the field of two elements, the word is a multiple of x⁴ + x + 1 (R186). -/
def MultipleOfGenerator (w : BitVec 32) : Prop :=
  ∃ q : BitVec 28, let p := q.setWidth 32
    w = (p <<< 4) ^^^ (p <<< 1) ^^^ p

/-- An accepted frame that reads `addr`; its data field is ignored (R186). -/
def readFrame (addr : Byte) (ignored : Word) : BitVec 32 := withCheck (0b0000#4 ++ addr ++ ignored)

/-- The addresses of the writable staging registers (11.6.2). -/
def stagingAddr : StgReg → Byte
  | .slotA => 0x09 | .slotB => 0x0A | .leader => 0x0B | .period => 0x0C | .phase => 0x0D
  | .watchA => 0x10 | .watchT1 => 0x11 | .watchT2 => 0x12 | .watchH => 0x13
  | .watchCount => 0x14 | .watchAct => 0x15 | .watchCapv => 0x16 | .watchSnap => 0x17

/-- The address of a register of switch `n`, from that of SW0 (11.6.1). -/
def ofSwitch (base : Nat) (n : SwIx) : Byte := BitVec.ofNat 8 (base + 4 * n)

/-- The address of a register of channel `c`, from that of PWM0 (11.6.1). -/
def ofChannel (base : Nat) (c : ChIx) : Byte := BitVec.ofNat 8 (base + 16 * c)

/-- The addresses of the pending values of PWM0 (11.6.1). -/
def pendingBase : PwmReg → Nat
  | .period => 0x81
  | .duty => 0x82
  | .trig => 0x83

/-- The address of each register (11.6.1 to 11.6.4). -/
def regAddr : Reg → Byte
  | .resetCause => 0x00 | .command => 0x01 | .cmdResult => 0x02 | .timeLo => 0x04 | .timeHi => 0x05
  | .stgStatus => 0x08 | .staging r => stagingAddr r | .stgSrt => 0x0E
  | .wrtA => 0x18 | .wrtPrev => 0x19 | .wrtTrips => 0x1A | .wrtTimeLo => 0x1B | .wrtTimeHi => 0x1C
  | .queueDepth => 0x20 | .queueSel => 0x21 | .queueEntry => 0x22 | .queueEnqLo => 0x23 | .queueEnqHi => 0x24
  | .queueSum => 0x25 | .queueFirstLo => 0x26 | .queueFirstHi => 0x27 | .ovrSumLo => 0x28 | .ovrSumHi => 0x29
  | .engineJob => 0x30 | .engineFirstLo => 0x31 | .engineFirstHi => 0x32
  | .faultInfo => 0x33 | .faultTimeLo => 0x34 | .faultTimeHi => 0x35
  | .resultSel => 0x40 | .resultState => 0x41 | .resultValue => 0x42 | .resultSeq => 0x43
  | .resultTimeLo => 0x44 | .resultTimeHi => 0x45
  | .capCtrl => 0x48 | .capStatus => 0x49 | .capSlot => 0x4A | .capValue => 0x4B
  | .capTimeLo => 0x4C | .capTimeHi => 0x4D | .capGap => 0x4E
  | .triplogStatus => 0x50 | .triplogSel => 0x51 | .triplogEntry => 0x52 | .triplogAval => 0x53
  | .triplogBval => 0x54 | .triplogTimeLo => 0x55 | .triplogTimeHi => 0x56 | .triplogOvf => 0x57
  | .swCfg n => ofSwitch 0x60 n | .swState n => ofSwitch 0x61 n | .swHold n => ofSwitch 0x62 n
  | .swTrips n => ofSwitch 0x63 n
  | .pwmCtrl c => ofChannel 0x80 c | .pwmConfig c r => ofChannel (pendingBase r) c
  | .pwmState c => ofChannel 0x84 c | .pwmApplied c => ofChannel 0x85 c | .pwmCapmin c => ofChannel 0x86 c
  | .pwmCapset c => ofChannel 0x87 c | .pwmForce c => ofChannel 0x88 c
  | .evtLatch => 0xC0 | .evtEnable => 0xC1 | .irqCtrl => 0xC2
  | .liveRules => 0xC4 | .faultRules => 0xC5 | .liveSwitches => 0xC6 | .liveCore => 0xC7
  | .guardCtrl => 0xD0 | .guardStatus => 0xD1

/-- The registers whose access in 11.6 is RW, W1C or RC; COMMAND (W) is apart. -/
def writable : Reg → Bool
  | .staging _ | .queueSel | .resultSel | .capCtrl | .triplogSel | .swCfg _ | .swTrips _ | .pwmCtrl _ | .pwmConfig _ _
  | .evtLatch | .evtEnable | .irqCtrl | .guardCtrl => true
  | _ => false

/-- The codes of a command row: its command code (11.6.5) and its argument. -/
def commandBytes : Instr → Option (Byte × Byte)
  | .loadSlot n => some (0x01, n) | .loadWatch n => some (0x02, n) | .commit a => some (0x03, a)
  | .trigger n => some (0x10, n) | .abort a => some (0x11, a) | .restartConverter a => some (0x12, a)
  | .clearSlotStats n => some (0x13, n) | .capturePop a => some (0x20, a) | .captureFlush a => some (0x21, a)
  | .arm n => some (0x30, n) | .disarm n => some (0x31, n) | .ack n => some (0x32, n)
  | .triplogClear a => some (0x33, a) | .swOn n => some (0x40, n) | .swOff n => some (0x41, n)
  | .swClear n => some (0x42, n) | .guardEnter a => some (0x50, a) | .guardExit a => some (0x51, a)
  | .softReset a => some (0x60, a) | .unknownCommand code a => some (code, a)
  | _ => none

/-- The address and the data of a write row (11.6). -/
def writeBytes : Instr → Option (Byte × Word)
  | .registerWrite addr d => some (addr, d)
  | .stagingFieldWrite r d => some (stagingAddr r, d)
  | .capCtrlWrite d => some (0x48, d)
  | .resultSelWrite d => some (0x40, d)
  | .triplogSelWrite d => some (0x51, d)
  | .swCfgWrite n d => some (ofSwitch 0x60 n, d)
  | .swTripsWrite n d => some (ofSwitch 0x63 n, d)
  | .pwmCtrlWrite c d => some (ofChannel 0x80 c, d)
  | .pwmConfigWrite c r d => some (ofChannel (pendingBase r) c, d)
  | .evtLatchWrite d => some (0xC0, d)
  | .evtEnableWrite d => some (0xC1, d)
  | .irqCtrlWrite d => some (0xC2, d)
  | i => (commandBytes i).map fun b => (0x01, b.1 ++ b.2)

/-- The address a read row reads (11.6). -/
def readAddr : Instr → Option Byte
  | .timeLoRead => some 0x04
  | .queueEntryRead => some 0x22
  | .engineJobRead => some 0x30
  | .faultInfoRead => some 0x33
  | .resetCauseRead => some 0x00
  | _ => none

/-- The frames that carry a row's access: one for a write, one for each ignored data of a read, none for an event. -/
def framesOf (i : Instr) (ignored : Word) : Option (BitVec 32) :=
  match writeBytes i, readAddr i with
  | some (addr, d), _ => some (writeFrame addr d)
  | none, some addr => some (readFrame addr ignored)
  | none, none => none

/-- What a staging register holds after `d` is written over `old`: the fields take their width, an undefined code leaves its
field, T1 reads with bit 12 repeated (R7, 11.6.2). -/
def staged (r : StgReg) (d old : Word) : Word :=
  match r with
  | .slotA | .period | .phase | .watchCapv => d
  | .slotB =>
    let edge := if field d 6 2 = 3 then field old 6 2 else field d 6 2
    let kind := if 4 < (field d 0 3).toNat then field old 0 3 else field d 0 3
    field d 8 8 ++ edge ++ field d 3 3 ++ kind
  | .leader => d &&& 0x001F
  | .watchA => field d 3 13 ++ (if 5 < (field d 0 3).toNat then field old 0 3 else field d 0 3)
  | .watchT1 => (field d 0 13).signExtend 16
  | .watchT2 | .watchAct => d &&& 0x0FFF
  | .watchH => d &&& 0x03FF
  | .watchCount => d &&& 0x3FFF
  | .watchSnap => d &&& 0x007F

/-! ## The words the registers show (11.6), field by field -/

/-- The word holds these numbers, each from its lowest bit upwards, and 0 in every other bit (11.6). -/
def shows (v : Word) (fields : List (Nat × Nat)) : Prop := v.toNat = (fields.map fun f => 2 ^ f.1 * f.2).sum

/-- The codes of the enumerated fields are the places of their values in these lists (11.6.1, 11.6.2). -/
def classes : List PClass := [.normal, .urgent]
def kinds : List TriggerKind := [.hostOnly, .periodic, .follow, .pin, .pwm]
def watchKinds : List WatchKindCode := [.above, .below, .outside, .inside, .diffAbove, .step]
def origins : List Origin := [.periodic, .pin, .pwm, .follow, .host, .snapshot]
def outcomes : List LastOutcome := [.none, .stored, .invalid, .stale, .aborted]
def queueStatuses : List QueueStatus := [.notQueued, .queued, .suspended]
def jobStatuses : List JobStatus := [.none, .active, .withdrawn]
def ruleStates : List RuleState := [.disarmed, .clear, .pending, .tripped, .releasing, .latched]
def switchStates : List SwitchState := [.off, .softstart, .on, .held, .ilimWait, .lockout]
def resultStates : List ResultState := [.absent, .valid, .invalid]
def details : List Detail :=
  [.none, .badInput, .badAverage, .badPeriod, .badDecimation, .leaderSelf, .chainCycle, .chainTooLong, .badSource,
    .bRequired, .bNotAllowed, .badThreshold, .tOrder, .emptyReleaseBand, .badCount, .badCapChannel, .sourceDisabled]

/-- The event kinds, each at its index in EVT_LATCH and EVT_ENABLE (9.2). -/
def eventKinds : List EventKind :=
  [.watchTrip, .watchRelease, .switchIlim, .switchLockout, .slotOverrun, .captureLevel, .captureLoss, .converterFault,
    .commandRefused, .frameRejected, .guardLeft, .triplogFull]

/-- The writable staging registers show the staged fields (11.6.2). -/
structure FieldWords (g : Staging) : Prop where
  slotA : shows (g.read .slotA)
    [(15, classes.idxOf g.slot.cls), (10, g.slot.avg.toNat), (9, [.bits12, .bits10].idxOf g.slot.res),
      (6, g.slot.acq.toNat), (0, g.slot.input.toNat)]
  slotB : shows (g.read .slotB)
    [(15, g.slot.enabled.toNat), (10, g.slot.decimation.toNat), (8, g.slot.channel.val),
      (6, [.rising, .falling, .both].idxOf g.slot.edge), (5, [.trg0, .trg1].idxOf g.slot.pin), (4, g.slot.guard.toNat),
      (3, g.slot.capture.toNat), (0, kinds.idxOf g.slot.kind)]
  leader : shows (g.read .leader) [(0, g.slot.leader.val)]
  period : g.read .period = g.slot.period
  phase : g.read .phase = g.slot.phase
  watchA : shows (g.read .watchA)
    [(10, g.watch.srcB.toNat), (4, g.watch.srcA.toNat), (3, g.watch.bPresent.toNat), (0, watchKinds.idxOf g.watch.kind)]
  watchT1 : (g.read .watchT1).toInt = g.watch.t1.toInt
  watchT2 : shows (g.read .watchT2) [(0, g.watch.t2.toNat)]
  watchH : shows (g.read .watchH) [(0, g.watch.h.toNat)]
  watchCount : shows (g.read .watchCount)
    [(13, g.watch.pinned.toNat), (12, g.watch.fault.toNat), (11, g.watch.irq.toNat), (10, g.watch.wake.toNat),
      (9, g.watch.failSafe.toNat), (8, g.watch.latching.toNat), (4, g.watch.release.toNat), (0, g.watch.confirm.toNat)]
  watchAct : shows (g.read .watchAct)
    [(9, g.watch.capChannel.toNat), (8, g.watch.capPresent.toNat), (4, g.watch.forceMask.toNat),
      (0, g.watch.openMask.toNat)]
  watchCapv : g.read .watchCapv = g.watch.capValue
  watchSnap : shows (g.read .watchSnap) [(6, g.watch.snapPresent.toNat), (0, g.watch.snapSlot.toNat)]

/-- STG_STATUS and the runtime snapshots (R5, R6, R10, 11.6.2), where the counts are in their ranges (R4, R98). -/
structure StagingWords (s : State) : Prop where
  status : shows (Reg.value .stgStatus s)
    (match s.staging.target with
    | .slot n => [(8, details.idxOf s.detail), (2, n.val), (0, [.empty, .loaded].idxOf s.staging.state)]
    | .watch n => [(8, details.idxOf s.detail), (2, n.val), (1, 1), (0, [.empty, .loaded].idxOf s.staging.state)])
  slotRuntime : s.staging.slotSnap.overrun ≤ 255 → shows (Reg.value .stgSrt s)
    [(13, jobStatuses.idxOf s.staging.slotSnap.job), (11, queueStatuses.idxOf s.staging.slotSnap.queue),
      (8, outcomes.idxOf s.staging.slotSnap.outcome), (0, s.staging.slotSnap.overrun)]
  ruleRuntime : s.staging.watchSnap.run ≤ 15 → shows (Reg.value .wrtA s)
    [(9, s.staging.watchSnap.lastTrip.isSome.toNat), (8, s.staging.watchSnap.previous.isSome.toNat),
      (7, s.staging.watchSnap.ackAhead.toNat), (3, s.staging.watchSnap.run), (0, ruleStates.idxOf s.staging.watchSnap.state)]
  previous : shows (Reg.value .wrtPrev s)
    (match s.staging.watchSnap.previous with
    | some v => [(0, v.toNat)]
    | none => [])
  trips : s.staging.watchSnap.trips ≤ 255 → shows (Reg.value .wrtTrips s) [(0, s.staging.watchSnap.trips)]
  lastTrip : ∀ time, s.staging.watchSnap.lastTrip = some time → Reg.value .wrtTimeHi s ++ Reg.value .wrtTimeLo s = time
  noTrip : s.staging.watchSnap.lastTrip = none → Reg.value .wrtTimeHi s = 0 ∧ Reg.value .wrtTimeLo s = 0

/-- RESULT_SEL and the result readout (R82, 11.6.1). -/
structure ResultWords (s : State) : Prop where
  sel : shows (Reg.value .resultSel s) [(0, s.results.sel.val)]
  state : s.results.readout.samples ≤ 16 → shows (Reg.value .resultState s)
    [(8, s.results.readoutSlot.val), (7, s.results.readout.clipped.toNat), (2, s.results.readout.samples),
      (0, resultStates.idxOf s.results.readout.state)]
  value : shows (Reg.value .resultValue s) [(0, s.results.readout.value.toNat)]
  seq : shows (Reg.value .resultSeq s) [(0, s.results.readout.seq.toNat)]
  time : Reg.value .resultTimeHi s ++ Reg.value .resultTimeLo s = s.results.readout.time

/-- CAP_CTRL and CAP_STATUS, and the capture readout with its empty marker and an absent gap (R88, R89, R91, R196,
11.6.3). -/
structure CaptureWords (s : State) : Prop where
  ctrl : s.fifo.watermark ≤ 64 → shows (Reg.value .capCtrl s)
    [(1, s.fifo.watermark), (0, [.keepOldest, .keepNewest].idxOf s.fifo.policy)]
  status : s.fifo.pendingLoss ≤ 255 → s.fifo.entries.length ≤ 64 → shows (Reg.value .capStatus s)
    [(7, s.fifo.pendingLoss), (0, s.fifo.entries.length)]
  empty : s.fifo.readout = none → Reg.value .capSlot s = 0x8000 ∧ Reg.value .capValue s = 0 ∧
    Reg.value .capTimeLo s = 0 ∧ Reg.value .capTimeHi s = 0 ∧ Reg.value .capGap s = 0
  entry : ∀ e, s.fifo.readout = some e →
    shows (Reg.value .capSlot s) [(5, e.seq.toNat), (0, e.slot.val)] ∧
      shows (Reg.value .capValue s) [(13, e.clipped.toNat), (12, e.invalid.toNat), (0, e.value.toNat)] ∧
      Reg.value .capTimeHi s ++ Reg.value .capTimeLo s = e.time ∧
      (e.gap = none → Reg.value .capGap s = 0) ∧
      ∀ g, e.gap = some g → g ≤ 255 → shows (Reg.value .capGap s) [(15, 1), (0, g)]

/-- TRIPLOG_STATUS and TRIPLOG_SEL, and the trip log readout with its empty marker and absent B fields (R124, R196,
11.6.4). -/
structure TripLogWords (s : State) : Prop where
  status : s.tripLog.entries.length ≤ 16 → shows (Reg.value .triplogStatus s)
    [(5, match s.tripLog.entries[15]? with
      | some e => if e.overflow = 0 then 0 else 1
      | none => 0), (0, s.tripLog.entries.length)]
  sel : shows (Reg.value .triplogSel s) [(0, s.tripLog.sel.val)]
  empty : s.tripLog.readout = none → Reg.value .triplogEntry s = 0x8000 ∧ Reg.value .triplogAval s = 0 ∧
    Reg.value .triplogBval s = 0 ∧ Reg.value .triplogTimeLo s = 0 ∧ Reg.value .triplogTimeHi s = 0 ∧
    Reg.value .triplogOvf s = 0
  entry : ∀ e, s.tripLog.readout = some e →
    shows (Reg.value .triplogEntry s)
      [(11, match e.b with
        | some (_, unusable) => unusable.toNat
        | none => 0), (10, e.b.isSome.toNat), (9, e.aInvalid.toNat), (4, e.aSlot.val), (0, e.rule.val)] ∧
      shows (Reg.value .triplogAval s) [(0, e.aValue.toNat)] ∧
      shows (Reg.value .triplogBval s)
        (match e.b with
        | some (v, _) => [(0, v.toNat)]
        | none => []) ∧
      Reg.value .triplogTimeHi s ++ Reg.value .triplogTimeLo s = e.time ∧
      (e.overflow ≤ 255 → shows (Reg.value .triplogOvf s) [(0, e.overflow)])

/-- The four registers of switch `n` (R146, 11.6.1), where the counts are in their ranges (R128). -/
structure SwitchWords (s : State) (n : SwIx) : Prop where
  cfg : shows (Reg.value (.swCfg n) s)
    [(8, (s.switch n).cfg.retryDelay.toNat), (6, (s.switch n).cfg.lockoutFault.toNat),
      (5, [.manual, .auto].idxOf (s.switch n).cfg.restore), (2, (s.switch n).cfg.retryMax.toNat),
      (0, (s.switch n).cfg.softStart.toNat)]
  state : (s.switch n).retries ≤ 7 → shows (Reg.value (.swState n) s)
    [(7, (decide ((s.switch n).holds ≠ 0)).toNat), (4, (s.switch n).retries), (3, (s.switch n).demand.toNat),
      (0, switchStates.idxOf (s.switch n).state)]
  hold : ∀ r : RuleIx, (Reg.value (.swHold n) s).getLsbD r = (s.switch n).holds.getLsbD r
  trips : (s.switch n).trips ≤ 255 → shows (Reg.value (.swTrips n) s) [(0, (s.switch n).trips)]

/-- The nine registers of channel `c` (R161, R196, 11.6.1); the cap list holds at most 16 entries (R149). -/
structure PwmWords (s : State) (c : ChIx) : Prop where
  ctrl : shows (Reg.value (.pwmCtrl c) s)
    [(1, [.activeHigh, .activeLow].idxOf (s.channel c).cfg.polarity), (0, (s.channel c).cfg.enable.toNat)]
  pending : Reg.value (.pwmConfig c .period) s = (s.channel c).cfg.period ∧
    Reg.value (.pwmConfig c .duty) s = (s.channel c).cfg.duty ∧ Reg.value (.pwmConfig c .trig) s = (s.channel c).cfg.trig
  state : (s.channel c).caps.length ≤ 16 → shows (Reg.value (.pwmState c) s)
    [(2, (s.channel c).caps.length), (1, (decide ((s.channel c).forces ≠ 0)).toNat), (0, (s.channel c).running.toNat)]
  applied : Reg.value (.pwmApplied c) s = (s.channel c).duty
  noCap : (s.channel c).caps = [] → Reg.value (.pwmCapmin c) s = 0
  capMin : (s.channel c).caps ≠ [] → (∃ q, (q, Reg.value (.pwmCapmin c) s) ∈ (s.channel c).caps) ∧
    ∀ q w, (q, w) ∈ (s.channel c).caps → (Reg.value (.pwmCapmin c) s).toNat ≤ w.toNat
  capSet : ∀ r : RuleIx, (Reg.value (.pwmCapset c) s).getLsbD r = true ↔ ∃ w, (r, w) ∈ (s.channel c).caps
  force : ∀ r : RuleIx, (Reg.value (.pwmForce c) s).getLsbD r = (s.channel c).forces.getLsbD r

/-- The three registers of the event unit (R164 to R166, 11.6.1). -/
structure EventWords (s : State) : Prop where
  latch : shows (Reg.value .evtLatch s) [(0, s.events.latches.toNat)]
  enable : shows (Reg.value .evtEnable s) [(0, s.events.enables.toNat)]
  ctrl : shows (Reg.value .irqCtrl s)
    [(1, [.activeLow, .activeHigh].idxOf s.events.irqPolarity), (0, [.level, .pulse].idxOf s.events.irqMode)]

/-! ## The values every reset gives -/

/-- The reset values of every block, as its own rule lists them, with the levels that stand on TRG0 and TRG1. -/
structure ResetValues (pins : PinPair) (cause : ResetCause) (s : State) : Prop where
  /-- R3. -/
  records : ∀ n, s.record n =
    { enabled := false, input := 0, acq := 0, res := .bits12, avg := .x1, cls := .normal, trigger := .hostOnly,
      capture := false, guard := false }
  /-- R4. -/
  runtime : ∀ n, s.slotRt n = { overrun := 0, outcome := .none }
  /-- R6. -/
  staging : s.staging.state = .empty ∧ s.staging.target = .slot 0 ∧
    s.staging.slotSnap = { overrun := 0, outcome := .none, queue := .notQueued, job := .none } ∧
      (∀ r, s.staging.read r =
        match r with
        | .slotA => 0x0400
        | .watchCount => 0x0011
        | .slotB | .leader | .period | .phase | .watchA | .watchT1 | .watchT2 | .watchH | .watchAct | .watchCapv
        | .watchSnap => 0) ∧
        s.staging.watchSnap =
          { state := .disarmed, run := 0, ackAhead := false, previous := none, trips := 0, lastTrip := none }
  /-- R43, R44, R46, R51, R53. -/
  triggers : s.triggers.time = 0 ∧ s.triggers.timeCapture = 0 ∧
    (∀ n, s.countdown n = { state := .stopped, left := 0 } ∧ s.decim n = 0) ∧
      s.triggers.pinLevel = pins ∧ s.triggers.pinRef = pins
  /-- R38, R41. -/
  queue : s.queue = { urgent := [], normal := [], selList := .urgent, selPos := 0, readout := none }
  /-- R61, R76. -/
  engine : s.engine.state = .idle ∧ s.engine.faultRecord = none ∧ s.engine.jobReadout = none ∧
    s.engine.faultReadout = none
  /-- R79, R82. -/
  results : (∀ n, s.result n = { state := .absent, value := 0, seq := 0, time := 0, samples := 0, clipped := false }) ∧
    s.results.sel = 0 ∧ s.results.readoutSlot = 0 ∧
      s.results.readout = { state := .absent, value := 0, seq := 0, time := 0, samples := 0, clipped := false }
  /-- R83. -/
  fifo : s.fifo = { entries := [], pendingLoss := 0, policy := .keepOldest, watermark := 32, readout := none }
  /-- R97. -/
  rules : ∀ n, s.rule n =
    { kind := .above, srcA := 0, t1 := 0, h := 0, confirm := 1, release := 1, latching := false, failSafe := false,
      wake := false, irq := false, fault := false, pinned := false, openMask := 0, forceMask := 0, cap := none,
      snapshot := none }
  /-- R98. -/
  ruleRuntime : ∀ n, s.ruleRt n =
    { state := .disarmed, run := 0, ackAhead := false, previous := none, trips := 0, lastTrip := none }
  /-- R122, R124. -/
  tripLog : s.tripLog = { entries := [], sel := 0, readout := none }
  /-- R129. -/
  switches : ∀ n, s.switch n =
    { cfg := { softStart := 2, retryDelay := 100, retryMax := 3, restore := .manual, lockoutFault := false },
      state := .off, demand := false, holds := 0, retries := 3, trips := 0, timer := none }
  /-- R150; `trigDone` and `owed` are the model's own (log 5, log 6). -/
  pwm : ∀ c, s.channel c =
    { cfg := { enable := false, polarity := .activeHigh, period := 2, duty := 0, trig := 0 }, running := false,
      position := 0, period := 2, trig := 0, duty := 0, caps := [], forces := 0, trigDone := false,
      owed := 0 }
  /-- R162. -/
  events : s.events =
    { latches := 0, enables := 0, irqMode := .level, irqPolarity := .activeLow, pulse := none, fault := false }
  /-- R175. -/
  mode : s.mode = { mode := .active, stretch := 0, lastExit := .none }
  /-- R188, R193, R194, R195. -/
  port : s.port.response = { rej := false, rst := true, irq := false, flt := false, addr := 0, data := 0 } ∧
    s.port.cmdCode = 0 ∧ s.port.cmdResult = 0 ∧ s.port.resetCause = cause ∧ s.port.resetIndication = true

/-! ## Requests (R45) -/

/-- The slots that `source` names and that a source may request, in ascending slot number (R45). -/
def raisable (s : State) (source : SlotRecord → Bool) : List SlotIx :=
  (List.finRange 32).filter fun n =>
    source (s.record n) && (s.record n).enabled && (s.mode.mode == .active || (s.record n).guard)

/-- The requests of one occurrence, taken one after another (R25, R45). -/
def requestEach (o : Origin) (ns : List SlotIx) (s : State) : State := ns.foldl (fun t n => t.request o n) s

/-- A line of leader relations, each slot followed by its leader (R14). -/
def IsLine (leader : SlotIx → Option SlotIx) (l : List SlotIx) : Prop := l.IsChain fun a b => leader a = some b

/-- The sample lengths of R63's table, in µs. -/
def sampleMicros (acq : BitVec 3) : Resolution → Nat
  | .bits12 => [4, 5, 7, 11, 19, 35, 67, 131].getD acq.toNat 0
  | .bits10 => [3, 4, 6, 10, 18, 34, 66, 130].getD acq.toNat 0

/-- The deadlines of R63's table, in µs from the sample start. -/
def deadlineMicros (acq : BitVec 3) : Resolution → Nat
  | .bits12 => [24, 25, 27, 31, 39, 55, 87, 151].getD acq.toNat 0
  | .bits10 => [23, 24, 26, 30, 38, 54, 86, 150].getD acq.toNat 0

/-- Every value A, the difference or the step can take for a kind (R100). -/
def observable : WatchKindCode → Int → Prop
  | .diffAbove, v => -4095 ≤ v ∧ v ≤ 4095
  | .above, v | .below, v | .outside, v | .inside, v | .step, v => 0 ≤ v ∧ v ≤ 4095

/-- The releasing band of R105. -/
def releasingBand (kind : WatchKindCode) (t1 t2 h v : Int) : Prop :=
  match kind with
  | .above | .diffAbove => v < t1 - h
  | .below => t1 + h < v
  | .outside => t1 + h ≤ v ∧ v ≤ t2 - h
  | .inside => v < t1 - h ∨ t2 + h < v
  | .step => v < max (t1 - h) 1

/-- The qualifying band of R105. -/
def qualifyingBand (kind : WatchKindCode) (t1 t2 v : Int) : Prop :=
  match kind with
  | .above | .diffAbove | .step => t1 < v
  | .below => v < t1
  | .outside => v < t1 ∨ t2 < v
  | .inside => t1 ≤ v ∧ v ≤ t2

/-- The number of entries of a FIFO counted as lost since the last flush: its gaps and its pending count (R88). -/
def lossesHeld (f : CaptureFifo) : Nat := f.pendingLoss + (f.entries.map fun e => e.gap.getD 0).sum

end Sys2Proof.Safety
end

