-- ==== Sys2Proof/Certificates/Slice0/Obligations.lean ====
section
/-! DEFINITION. The statements for the provers. Host rows are stated where no reset is in progress (`Ready`, R187); what a
statement says of the answer to a command or an access is `finished` or `answered` of Safety.lean. -/

open Sys2Proof Sys2Proof.Machine Sys2Proof.Safety

/-! ## Steps and resets -/

/-- 95: a step takes the command at the front of the queue whole. That an empty queue idles is the model's choice (log 1). -/
def Obligations.StepRunsFront : Prop :=
  ∀ (c : Instr) (rest : List Instr) (s : State),
    step { s with pending := c :: rest } = exec c { s with pending := rest } ∧
      step { s with pending := [] } = .next { s with pending := [] }

/-- The reset values of every block, and that every law holds right after reset. That the pins TRG0, TRG1 are low and CSN high is
the model's choice (log 14). -/
def Obligations.ResetState : Prop :=
  (ResetValues ⟨.low, .low⟩ .por State.reset ∧ Ready State.reset ∧ State.reset.port.selected = false ∧
     State.reset.pending = []) ∧
  (QueueLaw State.reset ∧ TableLaw State.reset ∧ TriggerLaw State.reset ∧ RuleLaw State.reset ∧ PinnedLaw State.reset ∧
     FaultLaw State.reset ∧ (∀ n, SwitchLaw (State.reset.switch n)) ∧ PwmLaw State.reset ∧ FifoLaw State.reset.fifo ∧
       TripLogLaw State.reset.tripLog ∧ ∀ n, ResultLaw (State.reset.result n))

/-- R195, R51, R187: the two resets from outside, and their end; that a reset stays in progress until RESET_END is the model's
choice (log 11). A read of RESET_CAUSE; R186: after CSN has risen a new frame can begin; R188: SDO is driven while CSN is low. -/
def Obligations.ResetRows : Prop :=
  (∀ s : State,
     (∃ t, exec .powerOnReset s = .next t ∧ ResetValues s.triggers.pinLevel .por t ∧ t.port.inReset = true ∧
       t.port.selected = s.port.selected ∧ t.pending = s.pending) ∧
     (∃ t, exec .resetnReset s = .next t ∧
       ResetValues s.triggers.pinLevel
         (if s.port.inReset = true ∧ s.port.resetCause = .por then .por else .pin) t ∧
       t.port.inReset = true ∧ t.port.selected = s.port.selected ∧ t.pending = s.pending) ∧
     (s.port.inReset = true → exec .resetEnd s = .next { s with
       triggers := { s.triggers with pinRef := s.triggers.pinLevel }
       port := { s.port with inReset := false } }) ∧
     (s.port.inReset = false → exec .resetEnd s = .next s)) ∧
  (∀ s : State,
     (Ready s → exec .resetCauseRead s =
       .next (answered { s with port := { s.port with resetIndication := false } } 0x00
         (match s.port.resetCause with
         | .por => 1
         | .pin => 2
         | .soft => 3))) ∧
     exec .csnRise s = .next { s with port := { s.port with selected := false } } ∧
     (s.sdoDriven = true ↔ s.port.selected = true))

/-- R194. Of a channel's reset values `trigDone` and `owed` are the model's own (log 5, log 6). -/
def Obligations.SoftReset : Prop :=
  ∀ (s : State) (arg : Byte), Ready s →
    ((∃ n, (s.rule n).pinned = true) → exec (.softReset arg) s = .next (finished s 0x60 arg .pinned)) ∧
    ((∀ n, (s.rule n).pinned = false) → ∃ t, exec (.softReset arg) s = .next t ∧
      ResetValues s.triggers.pinLevel .soft t ∧ Ready t ∧ t.port.selected = s.port.selected ∧ t.pending = s.pending)

/-! ## Frames and the window -/

/-- R187, R188: rejected frames, frames cut short, and frames that are ignored. -/
def Obligations.FramesRejected : Prop :=
  (∀ (s : State) (w : BitVec 32) (k : Fin 32),
    let rejected := s.occur .frameRejected
    let reply : Response :=
      { rej := true, rst := s.port.resetIndication, irq := rejected.events.irq, flt := s.events.fault, addr := 0, data := 0 }
    (Ready s → s.port.selected = false →
      ((field w 0 4 ≠ check (field w 4 28) ∨ field w 28 3 ≠ 0) →
        exec (.frame w) s = .next { rejected with port := { s.port with
          response := reply, shifted := ⟨s.port.response.word, 32⟩, selected := true } }) ∧
      exec (.frameCutShort k) s = .next { rejected with port := { s.port with
        response := reply, shifted := ⟨s.port.response.word, k⟩ } }) ∧
    (Ready s → s.port.selected = true →
      exec (.frame w) s = .next s ∧
        exec (.frameCutShort k) s = .next { s with port := { s.port with selected := false } }) ∧
    (s.port.inReset = true →
      exec (.frame w) s = .next { s with port := { s.port with selected := true } } ∧
        exec (.frameCutShort k) s = .next { s with port := { s.port with selected := false } })) ∧
  frameAccepted 0x00000000 = false ∧ frameAccepted 0xFFFFFFFF = false

/-- R186: the check is the remainder of a division by x⁴ + x + 1 from 1111b: read as polynomials, the 28 bits with their check
below them, and 1111b added to the first four of them, are a multiple of x⁴ + x + 1; and it is the register that R186 runs bit
by bit. A frame is accepted exactly when bits 30–28 are 000b and that holds of its 32 bits; one with any one bit inverted is
then rejected; 11.1's worked frame. R188, R189: the layout of a response. -/
def Obligations.CheckAndResponse : Prop :=
  ((∀ (x : BitVec 28) (c : BitVec 4), c = check x ↔ MultipleOfGenerator ((x ++ c) ^^^ 0xF0000000#32)) ∧
   (∀ x : BitVec 28, check x = (List.range 28).foldl (fun (r : BitVec 4) k =>
     if x.getLsbD (27 - k) = r.getLsbD 3 then r <<< 1 else (r <<< 1) ^^^ 0b0011#4) 0b1111#4) ∧
   (∀ w : BitVec 32, frameAccepted w = true ↔ field w 28 3 = 0 ∧ MultipleOfGenerator (w ^^^ 0xF0000000#32)) ∧
   (∀ (w : BitVec 32) (i : Fin 32), frameAccepted w = true → frameAccepted (w ^^^ BitVec.twoPow 32 i) = false) ∧
   readFrame 0x00 0 = 0x00000007) ∧
  (∀ r : Response,
     r.word.getLsbD 31 = r.rej ∧ r.word.getLsbD 30 = r.rst ∧ r.word.getLsbD 29 = r.irq ∧ r.word.getLsbD 28 = r.flt ∧
       field r.word 20 8 = r.addr ∧ field r.word 4 16 = r.data ∧ field r.word 0 4 = check (field r.word 4 28))

/-- R186, R188: the frame of a row, while no reset is in progress and CSN has been high, does what the row does; the response
kept before it is shifted out, and CSN stays low until CSN_RISE. What a row stands for, and that it leaves CSN and SDO to the
frame, is the model's reading (log 7); that a frame comes whole and leaves CSN low is its choice (log 10). -/
def Obligations.FrameRunsRow : Prop :=
  ∀ (i : Instr) (w : BitVec 32) (ignored : Word) (s t : State),
    framesOf i ignored = some w → Ready s → s.port.selected = false → exec i s = .next t →
      exec (.frame w) s = .next { t with port := { t.port with
        shifted := ⟨s.port.response.word, 32⟩, selected := true } }

/-- R190: an accepted read of a register that no rule gives an effect returns its value and does nothing else; an unmapped
address reads 0; R192: so does COMMAND. The words of the other registers stand with the statements of their blocks. -/
def Obligations.FrameReads : Prop :=
  ∀ (s : State) (addr : Byte) (ignored : Word), Ready s → s.port.selected = false →
    let reads (v : Word) : State :=
      { answered s addr v with port := { (answered s addr v).port with
        shifted := ⟨s.port.response.word, 32⟩, selected := true } }
    (∀ r, regAddr r = addr → r ≠ .timeLo → r ≠ .queueEntry → r ≠ .engineJob → r ≠ .faultInfo → r ≠ .resetCause →
      exec (.frame (readFrame addr ignored)) s = .next (reads (r.value s))) ∧
    ((∀ r, regAddr r ≠ addr) → exec (.frame (readFrame addr ignored)) s = .next (reads 0)) ∧
    Reg.value .command s = 0

/-- 11.6: which register stands at which address; R191: a write to a read-only or an unmapped address is ignored and answered
with the complement. -/
def Obligations.RegisterMap : Prop :=
  (∀ (addr : Byte) (r : Reg), Reg.ofAddr addr = some r ↔ regAddr r = addr) ∧
  (∀ (s : State) (addr : Byte) (d : Word), Ready s →
     (∀ r, regAddr r = addr → writable r = false ∧ r ≠ .command) →
       exec (.registerWrite addr d) s = .next (answered s addr (~~~d)))

/-- 11.6.5: the number of each result code and the codes of the 19 commands. R193: what CMD_RESULT holds after each command, and
that a refusal changes nothing besides it and COMMAND_REFUSED; R192: a code that names no command. -/
def Obligations.CommandResults : Prop :=
  ((∀ r : ResultCode, r.code = match r with
     | .ok => 0x00
     | .merged => 0x01
     | .already => 0x02
     | .empty => 0x03
     | .unknownCommand => 0x10
     | .badIndex => 0x11
     | .notEnabled => 0x12
     | .nothingStaged => 0x13
     | .invalidRecord => 0x14
     | .ruleActive => 0x15
     | .pinned => 0x16
     | .lockedOut => 0x17
     | .notLocked => 0x18
     | .notLatching => 0x19
     | .notLatched => 0x1A
     | .nothingToAbort => 0x1B
     | .notFaulted => 0x1C
     | .guardActive => 0x1D
     | .notInGuard => 0x1E
     | .noGuardSlots => 0x1F) ∧
   (∀ r : ResultCode, r.isRefusal = true ↔ 0x10 ≤ r.code.toNat) ∧
   (∀ code : Byte, code ∈ commandCodes ↔ code ∈ ([0x01, 0x02, 0x03, 0x10, 0x11, 0x12, 0x13, 0x20, 0x21, 0x30, 0x31, 0x32, 0x33,
     0x40, 0x41, 0x42, 0x50, 0x51, 0x60] : List Byte)) ∧
   (∀ (i : Instr) (code arg : Byte) (s : State), commandBytes i = some (code, arg) → code ≠ 0x60 → Ready s →
     ∃ mid r, exec i s = .next (finished mid code arg r) ∧ Reg.value .cmdResult (finished mid code arg r) = code ++ r.code ∧
       (r.isRefusal = true → mid = s)) ∧
   (∀ (s : State) (d : Word), Ready s → exec (.registerWrite 0x02 d) s = .next (answered s 0x02 (~~~d))) ∧
   Reg.value .cmdResult State.reset = 0) ∧
  (∀ (s : State) (code arg : Byte), Ready s → code ∉ commandCodes →
     exec (.unknownCommand code arg) s = .next (finished s code arg .unknownCommand))

/-! ## Staging buffer and COMMIT -/

/-- R7: a staging write changes the written register's fields and nothing else in the part. 11.6.2: the field each bit of a
staging register shows. -/
def Obligations.StagingWrite : Prop :=
  (∀ g : Staging, FieldWords g) ∧
  ∀ (s : State) (r : StgReg) (d : Word), Ready s →
    ∃ g : Staging, exec (.stagingFieldWrite r d) s = .next (answered { s with staging := g } (stagingAddr r) d) ∧
      g.state = s.staging.state ∧ g.target = s.staging.target ∧ g.slotSnap = s.staging.slotSnap ∧
        g.watchSnap = s.staging.watchSnap ∧ g.read r = staged r d (s.staging.read r) ∧
          ∀ q, q ≠ r → g.read q = s.staging.read q

/-- R8, R9: LOAD_SLOT and LOAD_WATCH. R5: the two status values of a slot's runtime snapshot, where the queue holds at most one
entry for the slot (R22). R5, R6, R10: STG_STATUS and the words of the two snapshots. -/
def Obligations.LoadCommands : Prop :=
  ((∀ (s : State) (n : SlotIx), Ready s →
     exec (.loadSlot (num 8 n)) s = .next (finished { s with staging :=
       { state := .loaded
         target := .slot n
         slot := (s.record n).toFields
         watch := .reset
         slotSnap :=
           { overrun := (s.slotRt n).overrun
             outcome := (s.slotRt n).outcome
             queue := s.queueStatus n
             job := s.jobStatus n }
         watchSnap := s.staging.watchSnap } } 0x01 (num 8 n) .ok)) ∧
   (∀ (s : State) (n : RuleIx), Ready s →
     exec (.loadWatch (num 8 n)) s = .next (finished { s with staging :=
       { state := .loaded
         target := .watch n
         slot := .reset
         watch := (s.rule n).toFields
         slotSnap := s.staging.slotSnap
         watchSnap := s.ruleRt n } } 0x02 (num 8 n) .ok)) ∧
   ∀ (s : State) (b : Byte), Ready s →
     (32 ≤ b.toNat → exec (.loadSlot b) s = .next (finished s 0x01 b .badIndex)) ∧
       (16 ≤ b.toNat → exec (.loadWatch b) s = .next (finished s 0x02 b .badIndex))) ∧
  (∀ (s : State) (n : SlotIx), QueueShape s →
     (s.queueStatus n = .notQueued ↔ ∀ e ∈ entries s, e.slot ≠ n) ∧
     (s.queueStatus n = .queued ↔ ∃ e ∈ entries s, e.slot = n ∧ e.ctx = none) ∧
     (s.queueStatus n = .suspended ↔ ∃ e ∈ entries s, e.slot = n ∧ e.ctx ≠ none) ∧
     (s.jobStatus n = .active ↔ ∃ j, s.engine.state = .busy j ∧ j.slot = n ∧ j.withdrawn = false) ∧
     (s.jobStatus n = .withdrawn ↔ ∃ j, s.engine.state = .busy j ∧ j.slot = n ∧ j.withdrawn = true)) ∧
  ∀ s : State, StagingWords s

/-- R2, R8, R97: the staged fields of an installed record, field by field, absent parameters and absent optional parts 0. R1, R2,
R15, R97: the record that legal staged fields install, field by field, with the parts of the staged kind. A record copied into
staging installs again as itself. R1: the averaging counts. -/
def Obligations.RecordRoundTrip : Prop :=
  ((∀ r : SlotRecord, r.toFields =
      { enabled := r.enabled, input := num 6 r.input, acq := r.acq, res := r.res, avg := num 5 r.avg.count, cls := r.cls
        kind := match r.trigger with
          | .hostOnly => .hostOnly
          | .periodic _ _ => .periodic
          | .follow _ => .follow
          | .pin _ _ => .pin
          | .pwm _ _ => .pwm
        period := match r.trigger with
          | .periodic period _ => period
          | _ => 0
        phase := match r.trigger with
          | .periodic _ phase => phase
          | _ => 0
        leader := match r.trigger with
          | .follow leader => leader
          | _ => 0
        pin := match r.trigger with
          | .pin pin _ => pin
          | _ => .trg0
        edge := match r.trigger with
          | .pin _ edge => edge
          | _ => .rising
        channel := match r.trigger with
          | .pwm channel _ => channel
          | _ => 0
        decimation := match r.trigger with
          | .pwm _ decimation => decimation
          | _ => 0
        capture := r.capture, guard := r.guard }) ∧
   (∀ f : SlotFields, f.input.toNat ≤ 23 → f.avg.toNat ∈ [1, 2, 4, 8, 16] →
     ∃ r, f.toRecord = some r ∧ r.enabled = f.enabled ∧ r.input.val = f.input.toNat ∧ r.acq = f.acq ∧ r.res = f.res ∧
       r.avg.count = f.avg.toNat ∧ r.cls = f.cls ∧ r.capture = f.capture ∧ r.guard = f.guard ∧
         r.trigger = match f.kind with
           | .hostOnly => .hostOnly
           | .periodic => .periodic f.period f.phase
           | .follow => .follow f.leader
           | .pin => .pin f.pin f.edge
           | .pwm => .pwm f.channel f.decimation) ∧
   [Averaging.x1, .x2, .x4, .x8, .x16].map Averaging.count = [1, 2, 4, 8, 16] ∧
   ∀ r : SlotRecord, r.toFields.toRecord = some r) ∧
  (∀ r : WatchRecord, r.toFields =
    { kind := match r.kind with
        | .above => .above
        | .below => .below
        | .outside _ => .outside
        | .inside _ => .inside
        | .diffAbove _ => .diffAbove
        | .step => .step
      srcA := num 6 r.srcA
      srcB := match r.kind with
        | .diffAbove b => num 6 b
        | _ => 0
      bPresent := match r.kind with
        | .diffAbove _ => true
        | _ => false
      t1 := r.t1
      t2 := match r.kind with
        | .outside t2 | .inside t2 => t2
        | _ => 0
      h := r.h, confirm := r.confirm, release := r.release, latching := r.latching, failSafe := r.failSafe, wake := r.wake
      irq := r.irq, fault := r.fault, pinned := r.pinned, openMask := r.openMask, forceMask := r.forceMask
      capPresent := r.cap.isSome
      capChannel := match r.cap with
        | some (c, _) => num 3 c
        | none => 0
      capValue := match r.cap with
        | some (_, v) => v
        | none => 0
      snapPresent := r.snapshot.isSome
      snapSlot := match r.snapshot with
        | some n => num 6 n
        | none => 0 }) ∧
  (∀ f : WatchFields, f.srcA.toNat ≤ 31 → (f.kind = .diffAbove → f.bPresent = true ∧ f.srcB.toNat ≤ 31) →
    (f.capPresent = true → f.capChannel.toNat ≤ 3) → (f.snapPresent = true → f.snapSlot.toNat ≤ 31) →
    ∃ r, f.toRecord = some r ∧ r.srcA.val = f.srcA.toNat ∧ r.t1 = f.t1 ∧ r.h = f.h ∧ r.confirm = f.confirm ∧
      r.release = f.release ∧ r.latching = f.latching ∧ r.failSafe = f.failSafe ∧ r.wake = f.wake ∧ r.irq = f.irq ∧
        r.fault = f.fault ∧ r.pinned = f.pinned ∧ r.openMask = f.openMask ∧ r.forceMask = f.forceMask ∧
      (match f.kind with
        | .above => r.kind = .above
        | .below => r.kind = .below
        | .outside => r.kind = .outside f.t2
        | .inside => r.kind = .inside f.t2
        | .diffAbove => ∃ b, r.kind = .diffAbove b ∧ b.val = f.srcB.toNat
        | .step => r.kind = .step) ∧
      (f.capPresent = false → r.cap = none) ∧
      (f.capPresent = true → ∃ c, r.cap = some (c, f.capValue) ∧ c.val = f.capChannel.toNat) ∧
      (f.snapPresent = false → r.snapshot = none) ∧
      (f.snapPresent = true → ∃ n, r.snapshot = some n ∧ n.val = f.snapSlot.toNat)) ∧
  ∀ r : WatchRecord, r.toFields.toRecord = some r

/-- R10: the detail field, NONE while EMPTY and else computed from the staged fields of the target. R12 to R14, R99 to R101: the
slot checks and the watch checks, each the first that fails in their order. -/
def Obligations.RecordChecks : Prop :=
  (∀ s : State,
     (s.staging.state = .empty → s.detail = .none) ∧
     (∀ n, s.staging.state = .loaded → s.staging.target = .slot n → s.detail = s.slotDetail n s.staging.slot) ∧
     ∀ n, s.staging.state = .loaded → s.staging.target = .watch n → s.detail = s.watchDetail s.staging.watch) ∧
  (∀ (s : State) (n : SlotIx) (f : SlotFields),
     s.slotDetail n f =
       if 23 < f.input.toNat then .badInput
       else if f.avg.toNat ∉ [1, 2, 4, 8, 16] then .badAverage
       else if f.kind = .periodic ∧ f.period = 0 then .badPeriod
       else if f.kind = .pwm ∧ (f.decimation = 0 ∨ 16 < f.decimation.toNat) then .badDecimation
       else if f.kind = .follow ∧ f.leader = n then .leaderSelf
       else if s.closesLoop n f = true then .chainCycle
       else if 5 < s.lineLength n f then .chainTooLong
       else .none) ∧
  (∀ (s : State) (f : WatchFields),
     let diff := f.kind = .diffAbove
     let disabled (x : BitVec 6) := ∃ n : SlotIx, n.val = x.toNat ∧ (s.record n).enabled = false
     let failing : Detail → Prop := fun
       | .badSource =>
         31 < f.srcA.toNat ∨ (diff ∧ f.bPresent = true ∧ (31 < f.srcB.toNat ∨ f.srcB = f.srcA)) ∨
           (f.snapPresent = true ∧ 31 < f.snapSlot.toNat)
       | .bRequired => diff ∧ f.bPresent = false
       | .bNotAllowed => ¬diff ∧ f.bPresent = true
       | .badThreshold => (¬diff ∧ f.t1.toInt < 0) ∨ (diff ∧ f.t1.toInt = -4096)
       | .tOrder => (f.kind = .outside ∨ f.kind = .inside) ∧ (f.t2.toNat : Int) < f.t1.toInt
       | .emptyReleaseBand => f.emptyReleaseBand = true
       | .badCount => f.confirm = 0 ∨ f.release = 0
       | .badCapChannel => f.capPresent = true ∧ 3 < f.capChannel.toNat
       | .sourceDisabled => f.pinned = true ∧ (disabled f.srcA ∨ (diff ∧ disabled f.srcB))
       | _ => False
     (s.watchDetail f ≠ .none → failing (s.watchDetail f)) ∧
       ∀ d, failing d → s.watchDetail f ≠ .none ∧ (s.watchDetail f).code.toNat ≤ d.code.toNat)

/-- R13: the leader relations as they would be with the staged record installed. R13, R14: CHAIN_CYCLE fails exactly when the walk
from the staged leader reaches the target, and CHAIN_TOO_LONG, where no loop stands, exactly when some line of leader relations
through the target holds more than 5 slots. The premise of the last two is R14's law of the installed table. -/
def Obligations.ChainChecks : Prop :=
  ∀ (s : State) (n : SlotIx) (f : SlotFields),
    (∀ a b, s.leaderAfter n f a = some b ↔
      if a = n then f.kind = .follow ∧ f.leader = b else (s.record a).trigger = .follow b) ∧
    (LineLaw s →
      (s.closesLoop n f = true ↔
        ∃ l, f.kind = .follow ∧ f.leader = l ∧
          Relation.ReflTransGen (fun a b => s.leaderAfter n f a = some b) l n) ∧
      (s.closesLoop n f = false →
        (5 < s.lineLength n f ↔ ∃ l, IsLine (s.leaderAfter n f) l ∧ n ∈ l ∧ 5 < l.length)))

/-- R100: EMPTY_RELEASE_BAND fails exactly when no value A, the difference or the step can take would be releasing; the earlier
check BAD_THRESHOLD has passed. -/
def Obligations.EmptyReleaseBand : Prop :=
  ∀ f : WatchFields, (f.kind ≠ .diffAbove → 0 ≤ f.t1.toInt) →
    (f.emptyReleaseBand = true ↔
      ∀ v, observable f.kind v → ¬releasingBand f.kind f.t1.toInt f.t2.toNat f.h.toNat v)

/-- R11, R102: the refusals of COMMIT, each where no earlier one holds. -/
def Obligations.CommitRefused : Prop :=
  ∀ (s : State) (arg : Byte), Ready s →
    (s.staging.state = .empty → exec (.commit arg) s = .next (finished s 0x03 arg .nothingStaged)) ∧
    (s.staging.state = .loaded → s.mode.mode = .guard →
      exec (.commit arg) s = .next (finished s 0x03 arg .guardActive)) ∧
    (s.staging.state = .loaded → s.mode.mode = .active →
      (∀ n, s.staging.target = .slot n →
        let protected' := ∃ r, (s.rule r).pinned = true ∧ ((s.rule r).srcA = n ∨ (s.rule r).kind = .diffAbove n)
        (protected' → exec (.commit arg) s = .next (finished s 0x03 arg .pinned)) ∧
        (¬protected' → s.detail ≠ .none → exec (.commit arg) s = .next (finished s 0x03 arg .invalidRecord))) ∧
      (∀ n, s.staging.target = .watch n →
        (((s.ruleRt n).state = .tripped ∨ (s.ruleRt n).state = .releasing ∨ (s.ruleRt n).state = .latched) →
          exec (.commit arg) s = .next (finished s 0x03 arg .ruleActive)) ∧
        ((s.ruleRt n).state.active = false → (s.rule n).pinned = true →
          exec (.commit arg) s = .next (finished s 0x03 arg .pinned)) ∧
        ((s.ruleRt n).state.active = false → (s.rule n).pinned = false → s.detail ≠ .none →
          exec (.commit arg) s = .next (finished s 0x03 arg .invalidRecord))))

/-- R15 to R19: a COMMIT for target SLOT n that passes its checks. -/
def Obligations.CommitSlot : Prop :=
  ∀ (s : State) (n : SlotIx) (arg : Byte), Ready s → s.staging.state = .loaded → s.staging.target = .slot n →
    s.mode.mode = .active → (∀ r, (s.rule r).pinned = true → (s.rule r).srcA ≠ n ∧ (s.rule r).kind ≠ .diffAbove n) →
    s.detail = .none →
      ∃ r : SlotRecord, s.staging.slot.toRecord = some r ∧
        let base : State := { s with
          slots := { s.slots with records := s.slots.records.set n r }
          queue := { s.queue with
            urgent := s.queue.urgent.filter fun e => e.slot != n
            normal := s.queue.normal.filter fun e => e.slot != n }
          engine := { s.engine with
            state := match s.engine.state with
              | .busy j => if j.slot = n then .busy { j with withdrawn := true } else .busy j
              | .idle => .idle
              | .faulted => .faulted }
          results := { s.results with records := s.results.records.set n .reset }
          triggers := { s.triggers with
            decims := s.triggers.decims.set n 0
            countdowns := s.triggers.countdowns.set n (match r.enabled, r.trigger with
              | true, .periodic period phase => ⟨.running, 10 * if phase = 0 then period.toNat else phase.toNat⟩
              | _, _ => ⟨.stopped, 0⟩) } }
        let t := match r.enabled, r.trigger with
          | true, .periodic _ phase => if phase = 0 then base.request .periodic n else base
          | _, _ => base
        exec (.commit arg) s = .next (finished { t with staging := { s.staging with
          slot := r.toFields
          slotSnap :=
            { overrun := (s.slotRt n).overrun
              outcome := (s.slotRt n).outcome
              queue := if (entries t).any fun e => e.slot == n then .queued else .notQueued
              job := t.jobStatus n } } } 0x03 arg .ok)

/-- R103: a COMMIT for target WATCH n that passes its checks. -/
def Obligations.CommitWatch : Prop :=
  ∀ (s : State) (n : RuleIx) (arg : Byte), Ready s → s.staging.state = .loaded → s.staging.target = .watch n →
    s.mode.mode = .active → (s.ruleRt n).state.active = false → (s.rule n).pinned = false → s.detail = .none →
      ∃ r : WatchRecord, s.staging.watch.toRecord = some r ∧
        let x : RuleRuntime :=
          { state := if r.pinned then .clear else .disarmed, run := 0, ackAhead := false, previous := none, trips := 0,
            lastTrip := none }
        exec (.commit arg) s = .next (finished { s with
          watch := { s.watch with records := s.watch.records.set n r, runtime := s.watch.runtime.set n x }
          staging := { s.staging with watch := r.toFields, watchSnap := x } } 0x03 arg .ok)

/-! ## Requests, grants and the queue's readout -/

/-- R23, R24: a request reaches the queue. -/
def Obligations.RequestTaken : Prop :=
  ∀ (s : State) (o : Origin) (n : SlotIx),
    ((∃ e ∈ entries s, e.slot = n) →
      s.request o n =
        if o = .host then s
        else (s.setSlotRt n { s.slotRt n with overrun := min 255 ((s.slotRt n).overrun + 1) }).occur .slotOverrun) ∧
    ((∀ e ∈ entries s, e.slot ≠ n) →
      let e : Entry := { slot := n, cls := (s.record n).cls, origin := o, enq := s.now, ctx := none }
      s.request o n = State.grant { s with queue :=
        match (s.record n).cls with
        | .urgent => { s.queue with urgent := s.queue.urgent ++ [e] }
        | .normal => { s.queue with normal := s.queue.normal ++ [e] } })

/-- R29, R31, R32, R62: what the arbiter grants and the job the engine forms. The number of a sample is the model's own
(log 4). -/
def Obligations.GrantTaken : Prop :=
  ∀ s : State,
    let job (e : Entry) : Job :=
      { slot := e.slot, cls := e.cls, origin := e.origin, enq := e.enq
        input := (s.record e.slot).input, acq := (s.record e.slot).acq, res := (s.record e.slot).res
        avg := (s.record e.slot).avg
        done := match e.ctx with
          | some c => c.done
          | none => 0
        sum := match e.ctx with
          | some c => c.sum
          | none => 0
        clipped := match e.ctx with
          | some c => c.clipped
          | none => false
        first := match e.ctx with
          | some c => c.first
          | none => s.now
        withdrawn := false, sampleStart := s.now, sampleId := s.engine.samples }
    (s.engine.state ≠ .idle ∨ (s.queue.urgent = [] ∧ s.queue.normal = []) → s.grant = s) ∧
    (∀ e us, s.engine.state = .idle → s.queue.urgent = e :: us → s.grant = { s with
      queue := { s.queue with urgent := us }
      engine := { s.engine with state := .busy (job e), samples := s.engine.samples + 1 } }) ∧
    (∀ e ns, s.engine.state = .idle → s.queue.urgent = [] → s.queue.normal = e :: ns → s.grant = { s with
      queue := { s.queue with normal := ns }
      engine := { s.engine with state := .busy (job e), samples := s.engine.samples + 1 } })

/-- R39: CLEAR_SLOT_STATS. -/
def Obligations.ClearSlotStats : Prop :=
  (∀ (s : State) (n : SlotIx), Ready s →
    exec (.clearSlotStats (num 8 n)) s =
      .next (finished (s.setSlotRt n { s.slotRt n with overrun := 0 }) 0x13 (num 8 n) .ok)) ∧
  ∀ (s : State) (b : Byte), Ready s → 32 ≤ b.toNat →
    exec (.clearSlotStats b) s = .next (finished s 0x13 b .badIndex)

/-- R38, R196: QUEUE_SEL and the capture at a read of QUEUE_ENTRY. R37, R40: QUEUE_DEPTH and the overrun summary as they read. -/
def Obligations.QueueReadout : Prop :=
  (∀ s : State, Ready s →
     (∀ d : Word, exec (.registerWrite 0x21 d) s = .next (answered { s with queue := { s.queue with
       selList := if d.getLsbD 8 then .normal else .urgent, selPos := (field d 0 5).toFin } } 0x21 d)) ∧
     shows (Reg.value .queueSel s) [(8, [.urgent, .normal].idxOf s.queue.selList), (0, s.queue.selPos.val)] ∧
     (let captured : Option Entry := match s.queue.selList with
         | .urgent => s.queue.urgent[s.queue.selPos.val]?
         | .normal => s.queue.normal[s.queue.selPos.val]?
      let t : State := { s with queue := { s.queue with readout := captured } }
      exec .queueEntryRead s = .next (answered t 0x22 (Reg.value .queueEntry t)) ∧
       (captured = none → Reg.value .queueEntry t = 0x8000 ∧ Reg.value .queueEnqLo t = 0 ∧ Reg.value .queueEnqHi t = 0 ∧
         Reg.value .queueSum t = 0 ∧ Reg.value .queueFirstLo t = 0 ∧ Reg.value .queueFirstHi t = 0) ∧
       ∀ e, captured = some e →
         let v := Reg.value .queueEntry t
         v.getLsbD 15 = false ∧ (field v 0 5).toNat = e.slot ∧ (v.getLsbD 5 = true ↔ e.cls = .urgent) ∧
           (field v 6 3).toNat = origins.idxOf e.origin ∧ (v.getLsbD 9 = true ↔ e.ctx ≠ none) ∧
           Reg.value .queueEnqHi t ++ Reg.value .queueEnqLo t = e.enq ∧
           (e.ctx = none → Reg.value .queueSum t = 0 ∧ Reg.value .queueFirstLo t = 0 ∧ Reg.value .queueFirstHi t = 0) ∧
           ∀ c, e.ctx = some c → (v.getLsbD 14 = c.clipped) ∧ field v 10 4 = num 4 c.done ∧
             Reg.value .queueSum t = num 16 c.sum ∧ Reg.value .queueFirstHi t ++ Reg.value .queueFirstLo t = c.first)) ∧
  (∀ s : State,
     (QueueShape s →
       (field (Reg.value .queueDepth s) 0 6).toNat = s.queue.urgent.length ∧
       (field (Reg.value .queueDepth s) 6 6).toNat = s.queue.normal.length ∧
       s.queue.urgent.length + s.queue.normal.length ≤ 32 ∧
       ((Reg.value .queueDepth s).getLsbD 12 = true ↔ ∃ e ∈ entries s, e.ctx ≠ none)) ∧
     ∀ n : SlotIx,
       (if n.val < 16 then (Reg.value .ovrSumLo s).getLsbD n.val else (Reg.value .ovrSumHi s).getLsbD (n.val - 16)) = true ↔
         (s.slotRt n).overrun ≠ 0)

/-! ## Trigger sources and time -/

/-- R43, R46, R128, R168, R151: what passes in `k` microseconds; a position rises by the 20 units of each, up to the unit before
the channel's next event, and the rest stays owed. That one row carries `k` microseconds, that a timer that has run out waits
for its expiry, and that a position waits for its event's row are the model's choices (log 2, 3, 5). -/
def Obligations.TimePasses : Prop :=
  (∀ x : Channel,
     let y := x.catchUp
     y = { x with position := y.position, owed := y.owed } ∧ y.position + y.owed = x.position + x.owed ∧
       x.position ≤ y.position ∧ (y.owed = 0 ∨ x.nextPoint ≤ y.position + 1) ∧
         (x.position < x.nextPoint → y.position < x.nextPoint) ∧
         (x.nextPoint ≤ x.position → y.position = x.position)) ∧
  (∀ x : Channel,
     let points := (if x.trigDone = false ∧ x.trig.toNat < x.period.toNat then [x.trig.toNat] else []) ++
       (if x.position < x.duty.toNat ∧ x.duty.toNat < x.period.toNat then [x.duty.toNat] else []) ++ [x.period.toNat]
     x.nextPoint ∈ points ∧ ∀ p ∈ points, x.nextPoint ≤ p) ∧
  ∀ (s : State) (k : Nat),
    (Ready s → ∃ t, exec (.timeCounterTick k) s = .next t ∧
      t.triggers = { s.triggers with time := s.triggers.time + BitVec.ofNat 32 k, countdowns := t.triggers.countdowns } ∧
      (∀ n, t.countdown n =
        if (s.countdown n).state = .running then { s.countdown n with left := (s.countdown n).left - k }
        else s.countdown n) ∧
      (∀ n, t.switch n = { s.switch n with timer := (s.switch n).timer.map fun x => { x with left := x.left - k } }) ∧
      (∀ c, t.channel c =
        if (s.channel c).running = true then { s.channel c with owed := (s.channel c).owed + 20 * k }.catchUp
        else s.channel c) ∧
      t.events = { s.events with pulse := s.events.pulse.map (· - k) } ∧
      Within [.triggers, .switches, .pwm, .events] s t) ∧
    (s.port.inReset = true → exec (.timeCounterTick k) s = .next s)

/-- R44: TIME_LO captures the whole counter and returns its low half; TIME_HI returns the high half of the capture. -/
def Obligations.TimeRead : Prop :=
  ∀ s : State, Ready s →
    exec .timeLoRead s = .next (answered { s with triggers := { s.triggers with timeCapture := s.triggers.time } } 0x04
      (field s.triggers.time 0 16)) ∧
    Reg.value .timeHi s = field s.triggers.timeCapture 16 16

/-- R47, R48: the expiry of a RUNNING countdown of a PERIODIC slot, and that no other is taken. That a countdown's remaining
time is held in µs and its expiry taken only once it has run out are the model's choices (log 3). -/
def Obligations.PeriodicExpiry : Prop :=
  ∀ (s : State) (n : SlotIx),
    (∀ period phase, (s.countdown n).state = .running → (s.countdown n).left = 0 →
      (s.record n).trigger = .periodic period phase →
      let factor := if s.mode.mode = .guard ∧ (s.record n).guard = true then 4 ^ s.mode.stretch.toNat else 1
      let t := s.setCountdown n { state := .running, left := 10 * (period.toNat * factor) }
      exec (.periodicExpiry n) s = .next
        (if (s.record n).enabled = true ∧ (s.mode.mode = .active ∨ (s.record n).guard = true) then t.request .periodic n
         else t)) ∧
    ((s.countdown n).state ≠ .running ∨ (s.countdown n).left ≠ 0 → exec (.periodicExpiry n) s = .next s)

/-- R51, R52: a change of level is an edge, and each matching slot is requested in ascending slot number. -/
def Obligations.TrgEdge : Prop :=
  ∀ (s : State) (pin : TrgPin) (level : Level),
    let levels (p : PinPair) : PinPair := match pin with
      | .trg0 => { p with trg0 := level }
      | .trg1 => { p with trg1 := level }
    let old := match pin with
      | .trg0 => s.triggers.pinRef.trg0
      | .trg1 => s.triggers.pinRef.trg1
    let selected (r : SlotRecord) : Bool := match r.trigger, level with
      | .pin p .both, _ | .pin p .rising, .high | .pin p .falling, .low => p == pin
      | _, _ => false
    (Ready s → old ≠ level → exec (.trgEdge pin level) s = .next
      (requestEach .pin (raisable s selected) { s with triggers := { s.triggers with
        pinLevel := levels s.triggers.pinLevel, pinRef := levels s.triggers.pinRef } })) ∧
    (s.port.inReset = true ∨ old = level → exec (.trgEdge pin level) s = .next
      { s with triggers := { s.triggers with pinLevel := levels s.triggers.pinLevel } })

/-- R53: a trigger-point event advances the counters of its channel's slots and requests those that reach their decimation. -/
def Obligations.TriggerPointCounted : Prop :=
  ∀ (s : State) (c : ChIx),
    let counts (n : SlotIx) : Option (BitVec 5) := match (s.record n).enabled, (s.record n).trigger with
      | true, .pwm ch decimation => if ch = c then some decimation else none
      | _, _ => none
    let due (n : SlotIx) : Bool := match counts n with
      | some decimation => s.decim n + 1 == decimation.toNat
      | none => false
    s.triggerPoint c = requestEach .pwm
      ((List.finRange 32).filter fun n => due n && (s.mode.mode == .active || (s.record n).guard))
      (s.setTriggers { s.triggers with
        decims := tabulate fun n =>
          match counts n with
          | some decimation => if s.decim n + 1 = decimation.toNat then 0 else s.decim n + 1
          | none => s.decim n })

/-- R57: TRIGGER. -/
def Obligations.TriggerCommand : Prop :=
  (∀ (s : State) (b : Byte), Ready s → 32 ≤ b.toNat → exec (.trigger b) s = .next (finished s 0x10 b .badIndex)) ∧
  ∀ (s : State) (n : SlotIx), Ready s →
    exec (.trigger (num 8 n)) s = .next
      (if (s.record n).enabled = false then finished s 0x10 (num 8 n) .notEnabled
       else if s.mode.mode = .guard ∧ (s.record n).guard = false then finished s 0x10 (num 8 n) .guardActive
       else if (entries s).any fun e => e.slot == n then finished s 0x10 (num 8 n) .merged
       else finished (s.request .host n) 0x10 (num 8 n) .ok)

/-! ## Conversion engine -/

/-- R63 to R68, R33, R34: what a completion does at the sample's length of R63's table, or later up to its deadline (R65, R70),
and that one at another time, or of no sample in progress, is discarded. That a late one counts is the model's reading
(log 25), the identity of a sample its choice (log 4), and a 10-bit raw code its low ten bits (log 16). -/
def Obligations.SampleCompletion : Prop :=
  ∀ (s : State) (sample : Nat) (raw : Code12),
    let age (j : Job) := (s.now - j.sampleStart).toNat
    (s.engine.state = .idle ∨ s.engine.state = .faulted ∨ (∃ j, s.engine.state = .busy j ∧ (j.sampleId ≠ sample ∨
        age j < sampleMicros j.acq j.res ∨ deadlineMicros j.acq j.res < age j)) →
      exec (.sampleCompletion sample raw) s = .next s) ∧
    ∀ j, s.engine.state = .busy j → j.sampleId = sample → sampleMicros j.acq j.res ≤ age j →
        age j ≤ deadlineMicros j.acq j.res →
      let code := match j.res with
        | .bits12 => raw.toNat
        | .bits10 => raw.toNat % 1024
      let top := match j.res with
        | .bits12 => 4095
        | .bits10 => 1023
      let j' : Job := { j with
        done := j.done + 1
        sum := j.sum + (match j.res with
          | .bits12 => code
          | .bits10 => 4 * code)
        clipped := j.clipped || code == 0 || code == top }
      let idle (t : State) : State := State.grant { t with engine := { t.engine with state := .idle } }
      (j.withdrawn = true → exec (.sampleCompletion sample raw) s = .next
        (idle (s.setSlotRt j.slot { s.slotRt j.slot with outcome := .stale }))) ∧
      (j.withdrawn = false → j'.done = j.avg.count →
        let t := s.deliver
          { slot := j.slot, state := .valid, value := BitVec.ofNat 12 (j'.sum / j.avg.count), samples := j.avg.count
            clipped := j'.clipped, time := s.now }
        exec (.sampleCompletion sample raw) s = .next
          (idle (t.setSlotRt j.slot { t.slotRt j.slot with outcome := .stored }))) ∧
      (j.withdrawn = false → j'.done ≠ j.avg.count → j.cls = .normal → s.queue.urgent ≠ [] →
        let back : Entry :=
          { slot := j.slot, cls := j.cls, origin := j.origin, enq := j.enq
            ctx := some { done := j'.done, sum := j'.sum, clipped := j'.clipped, first := j.first } }
        let joined : State := if s.queue.normal.any fun e => e.slot == j.slot then
            (s.setSlotRt j.slot { s.slotRt j.slot with overrun := min 255 ((s.slotRt j.slot).overrun + 1) }).occur
              .slotOverrun
          else s
        exec (.sampleCompletion sample raw) s = .next
          (idle { joined with queue := { s.queue with
            normal := back :: s.queue.normal.filter fun e => e.slot != j.slot } })) ∧
      (j.withdrawn = false → j'.done ≠ j.avg.count → j.cls = .urgent ∨ s.queue.urgent = [] →
        exec (.sampleCompletion sample raw) s = .next { s with engine := { s.engine with
          state := .busy { j' with sampleStart := s.now, sampleId := s.engine.samples }
          samples := s.engine.samples + 1 } })

/-- R63, R69, R76: the deadline expiry of the sample in progress. That it is taken only once the deadline has come is the
model's choice (log 3). -/
def Obligations.DeadlineExpiry : Prop :=
  ∀ s : State,
    (∀ j, s.engine.state = .busy j → deadlineMicros j.acq j.res ≤ (s.now - j.sampleStart).toNat →
      let t := if j.withdrawn then s.setSlotRt j.slot { s.slotRt j.slot with outcome := .stale }
        else
          let u := s.deliver
            { slot := j.slot, state := .invalid, value := 0, samples := j.done, clipped := j.clipped, time := s.now }
          u.setSlotRt j.slot { u.slotRt j.slot with outcome := .invalid }
      exec .deadlineExpiry s = .next (State.occur { t with engine := { t.engine with
        state := .faulted
        faultRecord := some
          { slot := j.slot, input := j.input, sample := j.done + 1, withdrawn := j.withdrawn
            time := s.now } } } .converterFault)) ∧
    ((∀ j, s.engine.state = .busy j → (s.now - j.sampleStart).toNat < deadlineMicros j.acq j.res) →
      exec .deadlineExpiry s = .next s)

/-- R72, R74: ABORT and RESTART_CONVERTER. -/
def Obligations.AbortAndRestart : Prop :=
  ∀ (s : State) (arg : Byte), Ready s →
    (∀ j, s.engine.state = .busy j →
      exec (.abort arg) s = .next (finished (State.grant { s with
        slots := { s.slots with
          runtime := s.slots.runtime.set j.slot { s.slotRt j.slot with outcome := .aborted } }
        engine := { s.engine with state := .idle } }) 0x11 arg .ok) ∧
      exec (.restartConverter arg) s = .next (finished s 0x12 arg .notFaulted)) ∧
    (s.engine.state = .faulted →
      exec (.abort arg) s = .next (finished s 0x11 arg .nothingToAbort) ∧
      exec (.restartConverter arg) s = .next
        (finished (State.grant { s with engine := { s.engine with state := .idle } }) 0x12 arg .ok)) ∧
    (s.engine.state = .idle →
      exec (.abort arg) s = .next (finished s 0x11 arg .nothingToAbort) ∧
      exec (.restartConverter arg) s = .next (finished s 0x12 arg .notFaulted))

/-- R76, R196: ENGINE_JOB and FAULT_INFO capture at the read, and what their groups return. -/
def Obligations.EngineReadout : Prop :=
  ∀ s : State, Ready s →
    (let t : State := { s with engine := { s.engine with jobReadout := some s.engine.state } }
     exec .engineJobRead s = .next (answered t 0x30 (Reg.value .engineJob t)) ∧
      (s.engine.state = .idle → Reg.value .engineJob t = 0 ∧ Reg.value .engineFirstLo t = 0 ∧
        Reg.value .engineFirstHi t = 0) ∧
      (s.engine.state = .faulted → Reg.value .engineJob t = 2 ∧ Reg.value .engineFirstLo t = 0 ∧
        Reg.value .engineFirstHi t = 0) ∧
      ∀ j, s.engine.state = .busy j →
        let v := Reg.value .engineJob t
        field v 0 2 = 1 ∧ (field v 2 5).toNat = j.slot ∧ (v.getLsbD 7 = true ↔ j.cls = .urgent) ∧
          field v 8 4 = num 4 j.done ∧ 2 ^ (field v 12 3).toNat = j.avg.count ∧ v.getLsbD 15 = j.withdrawn ∧
          Reg.value .engineFirstHi t ++ Reg.value .engineFirstLo t = j.first) ∧
    (let t : State := { s with engine := { s.engine with faultReadout := s.engine.faultRecord } }
     exec .faultInfoRead s = .next (answered t 0x33 (Reg.value .faultInfo t)) ∧
      (s.engine.faultRecord = none → Reg.value .faultInfo t = 0 ∧ Reg.value .faultTimeLo t = 0 ∧
        Reg.value .faultTimeHi t = 0) ∧
      ∀ f, s.engine.faultRecord = some f →
        let v := Reg.value .faultInfo t
        v.getLsbD 0 = true ∧ (field v 1 5).toNat = f.slot ∧ (field v 6 5).toNat = f.input ∧
          (1 ≤ f.sample → f.sample ≤ 16 → (field v 11 4).toNat + 1 = f.sample) ∧ v.getLsbD 15 = f.withdrawn ∧
          Reg.value .faultTimeHi t ++ Reg.value .faultTimeLo t = f.time) ∧
    Reg.value .engineFirstLo State.reset = 0 ∧ Reg.value .engineFirstHi State.reset = 0

/-! ## Results and capture FIFO -/

/-- R78, R80, R84, R106, R55: the four parts of a delivery, in their order. -/
def Obligations.DeliveryParts : Prop :=
  ∀ (s : State) (d : Delivery),
    let r : ResultRecord :=
      { state := d.state, value := d.value, seq := (s.result d.slot).seq + 1, time := d.time, samples := d.samples
        clipped := d.clipped }
    let written := s.setResult d.slot r
    let captured := if (s.record d.slot).capture then written.push
        { slot := d.slot, seq := r.seq, value := r.value, invalid := decide (r.state = .invalid), clipped := r.clipped
          time := r.time, gap := none }
      else written
    let evaluated := ((List.finRange 16).filter fun n => (s.rule n).srcA == d.slot).foldl (fun t n =>
      let u := t.judge n r
      if r.state = .valid ∧ (u.ruleRt n).state ≠ .disarmed then
        u.setRuleRt n { u.ruleRt n with previous := some r.value }
      else u) captured
    s.deliver d = requestEach .follow (raisable evaluated fun q => decide (q.trigger = .follow d.slot)) evaluated

/-- R85 to R87: a push into the capture FIFO. R88: while what a push adds to the pending loss count, one for an entry dropped, one
and the head's gap for a head removed, leaves it at 255 at most, the losses held rise by exactly the entry lost. -/
def Obligations.CapturePush : Prop :=
  (∀ (s : State) (e : CaptureEntry),
     let gap (k : Nat) : Option Nat := if k = 0 then none else some k
     (s.fifo.entries.length < 64 →
       let t : State := { s with fifo := { s.fifo with
         entries := s.fifo.entries ++ [{ e with gap := gap s.fifo.pendingLoss }], pendingLoss := 0 } }
       s.push e = if s.fifo.entries.length + 1 = s.fifo.watermark then t.occur .captureLevel else t) ∧
     (64 ≤ s.fifo.entries.length → s.fifo.policy = .keepOldest →
       s.push e = State.occur { s with fifo := { s.fifo with
         pendingLoss := min 255 (s.fifo.pendingLoss + 1) } } .captureLoss) ∧
     ∀ h hs, 64 ≤ s.fifo.entries.length → s.fifo.policy = .keepNewest → s.fifo.entries = h :: hs →
       s.push e = State.occur { s with fifo := { s.fifo with
         entries := hs ++ [{ e with gap := some (min 255 (s.fifo.pendingLoss + 1 + h.gap.getD 0)) }]
         pendingLoss := 0 } } .captureLoss) ∧
  (∀ (s : State) (e : CaptureEntry), s.fifo.entries.length < 64 → lossesHeld (s.push e).fifo = lossesHeld s.fifo) ∧
  (∀ (s : State) (e : CaptureEntry), 64 ≤ s.fifo.entries.length → s.fifo.policy = .keepOldest → s.fifo.pendingLoss + 1 ≤ 255 →
     lossesHeld (s.push e).fifo = lossesHeld s.fifo + 1) ∧
  ∀ (s : State) (e : CaptureEntry) h hs, 64 ≤ s.fifo.entries.length → s.fifo.policy = .keepNewest → s.fifo.entries = h :: hs →
    s.fifo.pendingLoss + 1 + h.gap.getD 0 ≤ 255 → lossesHeld (s.push e).fifo = lossesHeld s.fifo + 1

/-- R91, R93, R89: CAPTURE_POP, CAPTURE_FLUSH and a write of CAP_CTRL. R82, R124: writes of RESULT_SEL and TRIPLOG_SEL select and
capture; a value out of range is set aside. R82, R88, R91, R124, R196: what the registers of the three stores show. -/
def Obligations.StoreAccesses : Prop :=
  (∀ s : State, Ready s →
     (∀ (arg : Byte) e es, s.fifo.entries = e :: es → exec (.capturePop arg) s =
       .next (finished { s with fifo := { s.fifo with entries := es, readout := some e } } 0x20 arg .ok)) ∧
     (∀ arg : Byte, s.fifo.entries = [] → exec (.capturePop arg) s =
       .next (finished { s with fifo := { s.fifo with readout := none } } 0x20 arg .empty)) ∧
     (∀ arg : Byte, exec (.captureFlush arg) s =
       .next (finished { s with fifo := { s.fifo with entries := [], pendingLoss := 0 } } 0x21 arg .ok)) ∧
     ∀ d : Word, exec (.capCtrlWrite d) s = .next (answered { s with fifo := { s.fifo with
       policy := if d.getLsbD 0 then .keepNewest else .keepOldest
       watermark := if 1 ≤ (field d 1 7).toNat ∧ (field d 1 7).toNat ≤ 64 then (field d 1 7).toNat
         else s.fifo.watermark } } 0x48 d)) ∧
  (∀ (s : State) (d : Word), Ready s →
     (∀ n : SlotIx, (field d 0 8).toNat = n → exec (.resultSelWrite d) s = .next (answered { s with results :=
       { s.results with sel := n, readoutSlot := n, readout := s.result n } } 0x40 d)) ∧
     (31 < (field d 0 8).toNat → exec (.resultSelWrite d) s = .next (answered s 0x40 d)) ∧
     (∀ n : Fin 16, (field d 0 8).toNat = n → exec (.triplogSelWrite d) s = .next (answered { s with tripLog :=
       { s.tripLog with sel := n, readout := s.tripLog.entries[n.val]? } } 0x51 d)) ∧
     (15 < (field d 0 8).toNat → exec (.triplogSelWrite d) s = .next (answered s 0x51 d))) ∧
  ∀ s : State, ResultWords s ∧ CaptureWords s ∧ TripLogWords s

/-! ## Watch rules -/

/-- R104, R105, R107, R108: how a delivery is sorted. -/
def Obligations.Verdicts : Prop :=
  ∀ (s : State) (n : RuleIx) (res : ResultRecord),
    let r := s.rule n
    let unusable := if r.failSafe then Verdict.qualifying else Verdict.skipped
    let sorted (v : Int) (t2 : Int) : Prop :=
      (s.verdict n res = .qualifying ↔ qualifyingBand r.kind.toCode r.t1.toInt t2 v) ∧
        (s.verdict n res = .releasing ↔
          releasingBand r.kind.toCode r.t1.toInt t2 r.h.toNat v ∧ ¬qualifyingBand r.kind.toCode r.t1.toInt t2 v) ∧
          s.verdict n res ≠ .skipped
    (res.state ≠ .valid → s.verdict n res = unusable) ∧
    (res.state = .valid →
      match r.kind with
      | .above | .below => sorted res.value.toNat 0
      | .outside t2 | .inside t2 => sorted res.value.toNat t2.toNat
      | .diffAbove b =>
        if (s.result b).state = .valid then sorted (res.value.toNat - (s.result b).value.toNat) 0
        else s.verdict n res = unusable
      | .step =>
        match (s.ruleRt n).previous with
        | some p => sorted |(res.value.toNat : Int) - p.toNat| 0
        | none => s.verdict n res = .skipped)

/-- R104, R110, R113, R114: how an evaluated delivery moves a rule that keeps R109's run counts. -/
def Obligations.RuleMoves : Prop :=
  ∀ (s : State) (n : RuleIx) (res : ResultRecord), RunLaw (s.rule n) (s.ruleRt n) →
    let x := s.ruleRt n
    let r := s.rule n
    let move (st : RuleState) (run : Nat) : State := s.setRuleRt n { x with state := st, run := run }
    let qualify (run : Nat) : State := if r.confirm.toNat ≤ run then s.trip n res else move .pending run
    let freed : State := if r.latching = true ∧ x.ackAhead = false then move .latched 0 else s.clearRule n
    let releaseRun (run : Nat) : State := if r.release.toNat ≤ run then freed else move .releasing run
    s.judge n res =
      match x.state, s.verdict n res with
      | .disarmed, _ | .latched, _ | .clear, .skipped | .pending, .skipped | .tripped, .skipped | .releasing, .skipped
      | .clear, .releasing | .clear, .neutral | .tripped, .qualifying | .tripped, .neutral => s
      | .clear, .qualifying => qualify 1
      | .pending, .qualifying => qualify (x.run + 1)
      | .pending, .releasing | .pending, .neutral => move .clear 0
      | .tripped, .releasing => releaseRun 1
      | .releasing, .releasing => releaseRun (x.run + 1)
      | .releasing, .qualifying | .releasing, .neutral => move .tripped 0

/-- R111, R58, R181: the entry actions of a trip, in their order; R123: what a trip writes to the log. Which of the snapshot
request and the exit comes first is left open (log 12): one of the two orders is taken, for whatever value the free value has. -/
def Obligations.TripActions : Prop :=
  (∀ (s : State) (n : RuleIx) (res : ResultRecord),
     let r := s.rule n
     let entered : State := { s with
       watch := { s.watch with runtime := s.watch.runtime.set n { s.ruleRt n with state := .tripped, run := 0 } }
       switches := tabulate fun k => if r.openMask.getLsbD k then (s.switch k).addHold n else s.switch k
       pwm := tabulate fun c =>
         let x := if r.forceMask.getLsbD c then (s.channel c).addForce n else s.channel c
         match r.cap with
         | some (c', v) => if c' = c then x.addCap n v else x
         | none => x }
     let logged := entered.faultUpdate.logTrip
       { rule := n, aSlot := r.srcA
         aValue := if res.state = .valid then res.value else 0
         aInvalid := decide (res.state ≠ .valid)
         b := match r.kind with
           | .diffAbove b => if (s.result b).state = .valid then some ((s.result b).value, false) else some (0, true)
           | _ => none
         time := s.now, overflow := 0 }
     let counted := logged.setRuleRt n
       { s.ruleRt n with state := .tripped, run := 0, trips := min 255 ((s.ruleRt n).trips + 1), lastTrip := some s.now }
     let snapshot (t : State) : State := match r.snapshot with
       | some k => if (t.record k).enabled = true ∧ (t.mode.mode = .active ∨ (t.record k).guard = true) then
           t.request .snapshot k else t
       | none => t
     let irq (t : State) : State := if r.irq then t.occur .watchTrip else t
     let exit (t : State) : State := if t.mode.mode = .guard ∧ r.wake = true then t.leaveGuard (.wake n) else t
     let cleared (t : State) : State := t.setRuleRt n { t.ruleRt n with ackAhead := false }
     ∃ k, s.trip n res = cleared (exit (irq (snapshot { counted with choices := k }))) ∨
       s.trip n res = cleared (snapshot (exit (irq { counted with choices := k })))) ∧
  (∀ (s : State) (e : TripEntry),
     let l := s.tripLog.entries
     let log (es : List TripEntry) : State := { s with tripLog := { s.tripLog with entries := es } }
     (l.length < 15 → s.logTrip e = log (l ++ [e])) ∧
     (l.length = 15 → s.logTrip e = (log (l ++ [e])).occur .triplogFull) ∧
     ∀ a z, l = a ++ [z] → l.length = 16 →
       s.logTrip e = (log (a ++ [{ z with overflow := min 255 (z.overflow + 1) }])).occur .triplogFull)

/-- R114, R116, R140, R157: a rule that becomes CLEAR from an active state gives up its claims, and FAULT and WATCH_RELEASE
follow. -/
def Obligations.ClaimsWithdrawn : Prop :=
  ∀ (s : State) (n : RuleIx),
    let t : State := State.faultUpdate { s with
      watch := { s.watch with
        runtime := s.watch.runtime.set n { s.ruleRt n with state := .clear, run := 0, ackAhead := false } }
      switches := tabulate fun k => (s.switch k).dropHold n
      pwm := tabulate fun c => { s.channel c with
        caps := (s.channel c).caps.filter fun x => x.1 != n
        forces := (s.channel c).forces &&& ~~~BitVec.twoPow 16 n } }
    s.clearRule n = if (s.rule n).irq then t.occur .watchRelease else t

/-- R116 to R118, R125: ACK, ARM, DISARM and TRIPLOG_CLEAR. -/
def Obligations.RuleCommands : Prop :=
  (∀ (s : State) (b : Byte), Ready s → 16 ≤ b.toNat →
    exec (.ack b) s = .next (finished s 0x32 b .badIndex) ∧ exec (.arm b) s = .next (finished s 0x30 b .badIndex) ∧
      exec (.disarm b) s = .next (finished s 0x31 b .badIndex)) ∧
  (∀ (s : State) (n : RuleIx), Ready s →
    let x := s.ruleRt n
    let b : Byte := num 8 n
    exec (.ack b) s = .next
      (if (s.rule n).latching = false then finished s 0x32 b .notLatching
       else match x.state with
        | .latched => finished (s.clearRule n) 0x32 b .ok
        | .tripped | .releasing => finished (s.setRuleRt n { x with ackAhead := true }) 0x32 b .ok
        | .clear | .pending | .disarmed => finished s 0x32 b .notLatched) ∧
    exec (.arm b) s = .next
      (if x.state = .disarmed then
        finished (s.setRuleRt n { x with state := .clear, run := 0, ackAhead := false, previous := none }) 0x30 b .ok
       else finished s 0x30 b .already) ∧
    (let silent := s.setRuleRt n { x with state := .disarmed, run := 0, ackAhead := false, previous := none }
     exec (.disarm b) s = .next
      (if (s.rule n).pinned = true then finished s 0x31 b .pinned
       else match x.state with
        | .disarmed => finished s 0x31 b .already
        | .clear | .pending => finished silent 0x31 b .ok
        | .tripped | .releasing | .latched => finished (State.faultUpdate { silent with
            switches := tabulate fun k => (s.switch k).dropHold n
            pwm := tabulate fun c => (s.channel c).dropRule n }) 0x31 b .ok))) ∧
  ∀ (s : State) (arg : Byte), Ready s →
    exec (.triplogClear arg) s =
      .next (finished { s with tripLog := { s.tripLog with entries := [] } } 0x33 arg .ok)

/-! ## Load switches, and what claims and writes do to the outputs -/

/-- R130 to R132: SW_ON, SW_OFF and SW_CLEAR. -/
def Obligations.SwitchCommands : Prop :=
  (∀ (s : State) (b : Byte), Ready s → 4 ≤ b.toNat →
    exec (.swOn b) s = .next (finished s 0x40 b .badIndex) ∧ exec (.swOff b) s = .next (finished s 0x41 b .badIndex) ∧
      exec (.swClear b) s = .next (finished s 0x42 b .badIndex)) ∧
  ∀ (s : State) (n : SwIx), Ready s →
    let w := s.switch n
    let b : Byte := num 8 n
    exec (.swOn b) s = .next
      (match w.state with
      | .off => finished (s.setSwitch n
          (if w.holds = 0 then
            { w with
              state := .softstart, demand := true
              timer := some ⟨.softStart, [250, 500, 1000, 2000].getD w.cfg.softStart.toNat 0⟩ }
           else { w with state := .held, demand := true, timer := none })) 0x40 b .ok
      | .softstart | .on | .held | .ilimWait => finished s 0x40 b .already
      | .lockout => finished s 0x40 b .lockedOut) ∧
    exec (.swOff b) s = .next
      (match w.state, w.demand with
      | .off, _ | .lockout, false => finished s 0x41 b .already
      | .lockout, true => finished (s.setSwitch n { w with demand := false }) 0x41 b .ok
      | .softstart, _ | .on, _ | .held, _ | .ilimWait, _ =>
        finished (s.setSwitch n { w with state := .off, demand := false, timer := none }) 0x41 b .ok) ∧
    exec (.swClear b) s = .next
      (if w.state = .lockout then
        finished (s.setSwitch n
          { w with state := .off, demand := false, timer := none, retries := w.cfg.retryMax.toNat }).faultUpdate 0x42 b .ok
       else finished s 0x42 b .notLocked)

/-- R133 to R135: the expiries of the three timers, and that no other is taken (log 3). R136, R137: a current-limit event. R128:
when the output is energized. -/
def Obligations.SwitchEvents : Prop :=
  (∀ (s : State) (n : SwIx),
     let w := s.switch n
     let soft : Switch := { w with
       state := .softstart, timer := some ⟨.softStart, [250, 500, 1000, 2000].getD w.cfg.softStart.toNat 0⟩ }
     let on : Switch := { w with state := .on, timer := some ⟨.refill, 1000000⟩ }
     exec (.softStartExpiry n) s = .next
       (if w.state = .softstart ∧ w.timer = some ⟨.softStart, 0⟩ then s.setSwitch n on else s) ∧
     exec (.refillExpiry n) s = .next
       (if w.state = .on ∧ w.timer = some ⟨.refill, 0⟩ then
         s.setSwitch n { on with retries := w.cfg.retryMax.toNat } else s) ∧
     exec (.retryExpiry n) s = .next
       (if w.state = .ilimWait ∧ w.timer = some ⟨.retry, 0⟩ then s.setSwitch n soft else s)) ∧
  (∀ (s : State) (n : SwIx),
     let w := s.switch n
     (w.state = .softstart ∨ w.state = .on →
       exec (.currentLimit n) s = .next
         (if w.retries = 0 then
           (((s.setSwitch n { w with state := .lockout, trips := min 255 (w.trips + 1), timer := none }).occur
             .switchIlim).occur .switchLockout).faultUpdate
          else ((s.setSwitch n { w with
             state := .ilimWait, trips := min 255 (w.trips + 1), retries := w.retries - 1
             timer := some ⟨.retry, 1000 * w.cfg.retryDelay.toNat⟩ }).occur .switchIlim).faultUpdate)) ∧
     (w.state = .off ∨ w.state = .held ∨ w.state = .ilimWait ∨ w.state = .lockout →
       exec (.currentLimit n) s = .next s)) ∧
  (∀ (s : State) (n : SwIx), s.swOut n = true ↔ (s.switch n).state = .softstart ∨ (s.switch n).state = .on)

/-- R139, R140: a hold arrives at a switch, and is withdrawn from it. R155 to R157, R161: a cap and a force arrive at a channel, a
rule's restraints are withdrawn from it, and what PWM_CAPMINn and PWM_CAPSETn show. -/
def Obligations.ClaimsArrive : Prop :=
  (∀ (w : Switch) (r : RuleIx),
     let more := w.holds ||| BitVec.twoPow 16 r
     let fewer := w.holds &&& ~~~BitVec.twoPow 16 r
     w.addHold r =
       (if w.holds = 0 ∧ (w.state = .softstart ∨ w.state = .on ∨ w.state = .ilimWait) then
         { w with holds := more, state := .held, timer := none }
        else { w with holds := more }) ∧
     w.dropHold r =
       (if w.state = .held ∧ w.holds ≠ 0 ∧ fewer = 0 then
         match w.cfg.restore with
         | .auto => { w with holds := fewer, state := .softstart,
                             timer := some ⟨.softStart, [250, 500, 1000, 2000].getD w.cfg.softStart.toNat 0⟩ }
         | .manual => { w with holds := fewer, state := .off, timer := none, demand := false }
        else { w with holds := fewer })) ∧
  (∀ (x : Channel) (r : RuleIx) (v : Word),
     x.addCap r v = { x with
       caps := x.caps ++ [(r, v)]
       duty := if x.running = true ∧ v.toNat < x.duty.toNat then v else x.duty } ∧
     x.addForce r = { x with
       forces := x.forces ||| BitVec.twoPow 16 r
       duty := if x.running = true then 0 else x.duty } ∧
     x.dropRule r = { x with
       caps := x.caps.filter fun c => c.1 != r
       forces := x.forces &&& ~~~BitVec.twoPow 16 r } ∧
     (x.caps = [] → x.capMin = 0) ∧
     (x.caps ≠ [] → (∃ q, (q, x.capMin) ∈ x.caps) ∧ ∀ q w, (q, w) ∈ x.caps → x.capMin.toNat ≤ w.toNat) ∧
     (x.capSet.getLsbD r = true ↔ ∃ w, (r, w) ∈ x.caps))

/-- R143, R144: writes of SW_CFGn and SW_TRIPSn. R152 to R154: writes of the PWM registers. R146, R161: what the registers of a
switch and of a channel show. `trigDone` and `owed`, which the stop clears, are the model's own (log 5, log 6). -/
def Obligations.OutputWrites : Prop :=
  (∀ (s : State) (n : SwIx) (d : Word), Ready s →
     let w := s.switch n
     exec (.swCfgWrite n d) s = .next (answered (s.setSwitch n { w with
       cfg :=
         { softStart := field d 0 2
           retryDelay := if field d 8 8 = 0 then w.cfg.retryDelay else field d 8 8
           retryMax := field d 2 3
           restore := if d.getLsbD 5 then .auto else .manual
           lockoutFault := d.getLsbD 6 }
       retries := min w.retries (field d 2 3).toNat }).faultUpdate (ofSwitch 0x60 n) d) ∧
     exec (.swTripsWrite n d) s = .next (answered (s.setSwitch n { w with trips := 0 }) (ofSwitch 0x63 n) d)) ∧
  (∀ (s : State) (c : ChIx) (d : Word), Ready s →
     let x := s.channel c
     let cfg : ChannelConfig := { x.cfg with
       enable := d.getLsbD 0, polarity := if d.getLsbD 1 then .activeLow else .activeHigh }
     let t := s.setChannel c { x with cfg := cfg }
     (exec (.pwmCtrlWrite c d) s = .next (answered
       (if d.getLsbD 0 = true ∧ x.running = false ∧ s.mode.mode = .active then t.startPeriod c
        else if d.getLsbD 0 = false ∧ x.running = true then
         s.setChannel c
           { x with cfg := cfg, running := false, position := 0, duty := 0, trigDone := false, owed := 0 }
        else t) (ofChannel 0x80 c) d)) ∧
     exec (.pwmConfigWrite c .period d) s = .next (answered
       (s.setChannel c { x with cfg := { x.cfg with period := if d.toNat ≤ 1 then x.cfg.period else d } })
       (ofChannel 0x81 c) d) ∧
     exec (.pwmConfigWrite c .duty d) s = .next (answered
       (s.setChannel c { x with cfg := { x.cfg with duty := d } }) (ofChannel 0x82 c) d) ∧
     exec (.pwmConfigWrite c .trig d) s = .next (answered
       (s.setChannel c { x with cfg := { x.cfg with trig := d } }) (ofChannel 0x83 c) d)) ∧
  ∀ s : State, (∀ n, SwitchWords s n) ∧ ∀ c, PwmWords s c

/-! ## PWM channels -/

/-- R149, R151, R154, R159: the period start that begins a run and the one at the end of a period, the end of the pulse and the
trigger point, each taken once the time to it has passed and no earlier point of the period is still to come; what has passed
since is owed to what follows, so that a period lasts its 50 ns units whatever the microseconds in which its rows come (log 5,
log 6). R149, R153: the pin. -/
def Obligations.PwmEvents : Prop :=
  (∀ (s : State) (c : ChIx),
    let x := s.channel c
    let passed := x.position + x.owed
    let trigTaken := x.trigDone = true ∨ x.period.toNat ≤ x.trig.toNat
    let dutyTaken := x.duty.toNat ≤ x.position ∨ x.period.toNat ≤ x.duty.toNat
    (∃ duty : Word,
      (x.forces ≠ 0 → duty = 0) ∧
      (x.forces = 0 → duty.toNat ≤ x.cfg.duty.toNat ∧ (∀ r v, (r, v) ∈ x.caps → duty.toNat ≤ v.toNat) ∧
        (duty = x.cfg.duty ∨ ∃ r, (r, duty) ∈ x.caps)) ∧
      let begun (rest : Nat) : Channel := { x with
        running := true, position := 0, period := x.cfg.period, trig := x.cfg.trig, duty := duty
        trigDone := decide (x.cfg.trig = 0), owed := rest }
      let raised (t : State) : State := if x.cfg.trig = 0 then t.triggerPoint c else t
      x.start = begun 0 ∧ s.startPeriod c = raised (s.setChannel c (begun 0)) ∧
        (x.running = true → trigTaken → dutyTaken → x.period.toNat ≤ passed → exec (.pwmPeriodStart c) s =
          .next (raised (s.setChannel c (begun (passed - x.period.toNat)).catchUp)))) ∧
    (x.running = true → x.position < x.duty.toNat → x.duty.toNat < x.period.toNat → trigTaken ∨ x.duty.toNat ≤ x.trig.toNat →
      x.duty.toNat ≤ passed → exec (.pwmDutyEnd c) s = .next (s.setChannel c
        (Channel.catchUp { x with position := x.duty.toNat, owed := passed - x.duty.toNat }))) ∧
    (x.running = true → x.trigDone = false → x.trig.toNat < x.period.toNat → dutyTaken ∨ x.trig.toNat ≤ x.duty.toNat →
      x.trig.toNat ≤ passed → exec (.pwmTriggerPoint c) s = .next ((s.setChannel c
        (Channel.catchUp { x with position := x.trig.toNat, trigDone := true, owed := passed - x.trig.toNat })).triggerPoint
          c)) ∧
    (x.running = false ∨ passed < x.period.toNat ∨ ¬trigTaken ∨ ¬dutyTaken → exec (.pwmPeriodStart c) s = .next s) ∧
    (x.running = false ∨ passed < x.duty.toNat ∨ dutyTaken ∨ (¬trigTaken ∧ x.trig.toNat < x.duty.toNat) →
      exec (.pwmDutyEnd c) s = .next s) ∧
    (x.running = false ∨ passed < x.trig.toNat ∨ trigTaken ∨ (¬dutyTaken ∧ x.duty.toNat < x.trig.toNat) →
      exec (.pwmTriggerPoint c) s = .next s)) ∧
  ∀ (s : State) (c : ChIx),
    let x := s.channel c
    let outputActive := x.running = true ∧ x.position < x.duty.toNat
    (outputActive → s.pwmPin c = match x.cfg.polarity with
      | .activeHigh => .high
      | .activeLow => .low) ∧
    (¬outputActive → s.pwmPin c = match x.cfg.polarity with
      | .activeHigh => .low
      | .activeLow => .high)

/-! ## Event unit -/

/-- 9.2: the index of each of the twelve kinds. R163, R167, R168: an occurrence of a kind, and when IRQ is asserted. R164 to R166,
R169: writes of EVT_LATCH, EVT_ENABLE and IRQ_CTRL, what the three registers show, the level of the IRQ pin, and the expiry of
the pulse timer, which waits until it has run out (log 3). -/
def Obligations.EventUnitWorks : Prop :=
  (∀ k : EventKind, k.index = eventKinds.idxOf k) ∧
  (∀ (s : State) (k : EventKind),
     s.occur k = { s with events := { s.events with
       latches := s.events.latches ||| BitVec.twoPow 12 k.index
       pulse := if s.events.irqMode = .pulse ∧ s.events.enables.getLsbD k.index = true ∧ s.events.pulse = none then some 2
         else s.events.pulse } } ∧
     (s.events.irqMode = .level →
       (s.events.irq = true ↔ ∃ q : EventKind, s.events.latches.getLsbD q.index = true ∧
         s.events.enables.getLsbD q.index = true)) ∧
     (s.events.irqMode = .pulse → (s.events.irq = true ↔ s.events.pulse ≠ none))) ∧
  (∀ s : State,
     (Ready s → ∀ d : Word,
       (exec (.evtLatchWrite d) s = .next (answered { s with events := { s.events with
         latches := s.events.latches &&& ~~~(d.setWidth 12) } } 0xC0 d)) ∧
       (exec (.evtEnableWrite d) s = .next (answered { s with events := { s.events with
         enables := d.setWidth 12
         pulse := if s.events.irqMode = .pulse ∧ s.events.pulse = none ∧
             (∃ i : Fin 12, d.getLsbD i = true ∧ s.events.enables.getLsbD i = false ∧ s.events.latches.getLsbD i = true)
           then some 2 else s.events.pulse } } 0xC1 d)) ∧
       (let mode : IrqMode := if d.getLsbD 0 then .pulse else .level
        exec (.irqCtrlWrite d) s = .next (answered { s with events := { s.events with
         irqMode := mode
         irqPolarity := if d.getLsbD 1 then .activeHigh else .activeLow
         pulse := if mode = s.events.irqMode then s.events.pulse else none } } 0xC2 d))) ∧
     (s.events.pulse = some 0 → exec .irqPulseExpiry s = .next { s with events := { s.events with pulse := none } }) ∧
     (s.events.pulse ≠ some 0 → exec .irqPulseExpiry s = .next s) ∧
     (s.irqPin = .high ↔ (s.events.irqPolarity = .activeHigh ↔ s.events.irq = true)) ∧ EventWords s)

/-! ## GUARD -/

/-- R177, R178, with the effects of R28, R49, R75 and R160. The channels' `trigDone` and `owed` are the model's own (log 5,
log 6). -/
def Obligations.GuardEnter : Prop :=
  ∀ (s : State) (arg : Byte), Ready s →
    (s.mode.mode = .guard → exec (.guardEnter arg) s = .next (finished s 0x50 arg .guardActive)) ∧
    (s.mode.mode = .active →
      ((∀ n, (s.record n).enabled = false ∨ (s.record n).guard = false) →
        exec (.guardEnter arg) s = .next (finished s 0x50 arg .noGuardSlots)) ∧
      ((∃ n, (s.record n).enabled = true ∧ (s.record n).guard = true) →
        let unguarded := ∃ r n, (s.rule r).pinned = true ∧ ((s.rule r).srcA = n ∨ (s.rule r).kind = .diffAbove n) ∧
          (s.record n).guard = false
        (unguarded → exec (.guardEnter arg) s = .next (finished s 0x50 arg .pinned)) ∧
        (¬unguarded →
          let base : State := { s with
            mode := { s.mode with mode := .guard }
            queue := { s.queue with
              urgent := s.queue.urgent.filter fun e => (s.record e.slot).guard
              normal := s.queue.normal.filter fun e => (s.record e.slot).guard }
            triggers := { s.triggers with
              countdowns := tabulate fun n =>
                if (s.record n).guard = false ∧ (s.countdown n).state = .running then
                  { s.countdown n with state := .frozen }
                else s.countdown n }
            pwm := tabulate fun c => if (s.channel c).running then
                { s.channel c with running := false, position := 0, duty := 0, trigDone := false, owed := 0 }
              else s.channel c }
          let t := match s.engine.state with
            | .busy j => if (s.record j.slot).guard then base
              else State.grant { base with
                slots := { s.slots with
                  runtime := s.slots.runtime.set j.slot { s.slotRt j.slot with outcome := .aborted } }
                engine := { s.engine with state := .idle } }
            | .idle | .faulted => base
          exec (.guardEnter arg) s = .next (finished t 0x50 arg .ok))))

/-- R180 to R182: GUARD_EXIT, and the exit itself. What it releases at once (frozen countdowns that had run out, trigger points
at 0 of the channels it starts) is taken one by one in some order: the order is left open (log 13), so the statement is for
every value of the free value. R47 to R49, R159: what is done for each released expiry and each released trigger point. The
`trigDone` and `owed` of a channel's start are the model's own (log 5, log 6). -/
def Obligations.GuardExit : Prop :=
  (∀ (s : State) (arg : Byte), Ready s →
    (s.mode.mode = .active → exec (.guardExit arg) s = .next (finished s 0x51 arg .notInGuard)) ∧
    (s.mode.mode = .guard → exec (.guardExit arg) s = .next (finished (s.leaveGuard .host) 0x51 arg .ok))) ∧
  (∀ (s : State) (n : SlotIx), s.takeReleased (.expiry n) =
    match (s.record n).trigger with
    | .periodic period _ =>
      let factor := if s.mode.mode = .guard ∧ (s.record n).guard = true then 4 ^ s.mode.stretch.toNat else 1
      let t := s.setCountdown n { state := .running, left := 10 * (period.toNat * factor) }
      if (s.record n).enabled = true ∧ (s.mode.mode = .active ∨ (s.record n).guard = true) then t.request .periodic n else t
    | .hostOnly | .follow _ | .pin _ _ | .pwm _ _ => s) ∧
  (∀ (s : State) (c : ChIx), s.takeReleased (.point c) = s.triggerPoint c) ∧
  ∀ (s : State) (cause : ExitCause),
    let base : State := State.occur { s with
      mode := { s.mode with mode := .active, lastExit := cause }
      triggers := { s.triggers with countdowns := tabulate fun n =>
        if (s.countdown n).state = .frozen then { s.countdown n with state := .running } else s.countdown n }
      pwm := tabulate fun c => if (s.channel c).cfg.enable then (s.channel c).start else s.channel c } .guardLeft
    ∃ (order : List Released) (k : Nat),
      order.Nodup ∧
      (∀ n, .expiry n ∈ order ↔ (s.countdown n).state = .frozen ∧ (s.countdown n).left = 0) ∧
      (∀ c, .point c ∈ order ↔ (s.channel c).cfg.enable = true ∧ (s.channel c).cfg.trig = 0) ∧
      s.leaveGuard cause = { order.foldl State.takeReleased base with choices := k }

/-- R176, R175: a write of GUARD_CTRL, and GUARD_CTRL and GUARD_STATUS as they read. R173: the four live registers; which of
LIVE_CORE's bits 9–6 shows which switch is the model's choice (log 24). R170: the FAULT pin. R171: FAULT brought up to its
condition, and nothing else changed. -/
def Obligations.StatusRegisters : Prop :=
  (∀ (s : State) (d : Word),
     (Ready s → exec (.registerWrite 0xD0 d) s =
       .next (answered { s with mode := { s.mode with stretch := d.setWidth 2 } } 0xD0 d)) ∧
     shows (Reg.value .guardCtrl s) [(0, s.mode.stretch.toNat)] ∧
     ((Reg.value .guardStatus s).getLsbD 0 = true ↔ s.mode.mode = .guard) ∧
     field (Reg.value .guardStatus s) 1 2 = (match s.mode.lastExit with
       | .none => 0
       | .host => 1
       | .wake _ => 2) ∧
     field (Reg.value .guardStatus s) 3 4 = (match s.mode.lastExit with
       | .none | .host => 0
       | .wake r => num 4 r)) ∧
  (∀ s : State,
     (∀ n : RuleIx, (Reg.value .liveRules s).getLsbD n = true ↔
       (s.ruleRt n).state = .tripped ∨ (s.ruleRt n).state = .releasing ∨ (s.ruleRt n).state = .latched) ∧
     (∀ n : RuleIx, (Reg.value .faultRules s).getLsbD n = true ↔
       (s.ruleRt n).state.active = true ∧ (s.rule n).fault = true) ∧
     (∀ k : SwIx, (field (Reg.value .liveSwitches s) (3 * k) 3).toNat = switchStates.idxOf (s.switch k).state) ∧
     (let v := Reg.value .liveCore s
      (field v 0 2 = match s.engine.state with
        | .idle => 0
        | .busy _ => 1
        | .faulted => 2) ∧ (v.getLsbD 2 = true ↔ s.mode.mode = .guard) ∧ v.getLsbD 3 = s.events.fault ∧
       v.getLsbD 4 = s.events.irq ∧ (v.getLsbD 5 = true ↔ s.events.pulse ≠ none) ∧
       ∀ k : SwIx, v.getLsbD (6 + k) = true ↔ (s.switch k).state = .lockout ∧ (s.switch k).cfg.lockoutFault = true) ∧
     (FaultLaw s → ((Reg.value .liveCore s).getLsbD 3 = true ↔
       Reg.value .faultRules s ≠ 0 ∨ ∃ k : SwIx, (Reg.value .liveCore s).getLsbD (6 + k) = true)) ∧
     Reg.value .liveRules State.reset = 0 ∧ Reg.value .faultRules State.reset = 0 ∧
       Reg.value .liveSwitches State.reset = 0 ∧ Reg.value .liveCore State.reset = 0 ∧
       (s.faultPinDrivenLow = true ↔ s.events.fault = true) ∧
         (s.faultUpdate = { s with events := { s.events with fault := s.faultUpdate.events.fault } } ∧ FaultLaw s.faultUpdate))

/-! ## Frames of the commands and writes -/

/-- What each command leaves alone, whatever its argument and its result: every block but the command's own, the event unit's
latches and the host port; and what each register write leaves alone: every block but the register's own and the host port. -/
def Obligations.RowFrames : Prop :=
  (∀ (i : Instr) (c : Command) (arg : Byte) (s t : State), commandBytes i = some (c.code, arg) → exec i s = .next t →
     Within (.events :: .port :: commandBlocks c) s t) ∧
  (∀ (i : Instr) (r : Reg) (d : Word) (s t : State), writeBytes i = some (regAddr r, d) → r ≠ .command →
     exec i s = .next t → Within (.port :: writeBlocks r) s t)

/-! ## Laws that every step keeps -/

/-- R21, R22, R28, R30, R33, R60. -/
def Obligations.QueueLawKept : Prop := ∀ s t : State, QueueLaw s → step s = .next t → QueueLaw t

/-- R2, R4, R14. -/
def Obligations.TableLawKept : Prop := ∀ s t : State, TableLaw s → step s = .next t → TableLaw t

/-- R46, R49, R53. -/
def Obligations.TriggerLawKept : Prop := ∀ s t : State, TriggerLaw s → step s = .next t → TriggerLaw t

/-- R98, R109, R112, R149. -/
def Obligations.RuleLawKept : Prop := ∀ s t : State, RuleLaw s → step s = .next t → RuleLaw t

/-- R120. -/
def Obligations.PinnedLawKept : Prop := ∀ s t : State, PinnedLaw s → step s = .next t → PinnedLaw t

/-- R171. -/
def Obligations.FaultLawKept : Prop := ∀ s t : State, FaultLaw s → step s = .next t → FaultLaw t

/-- R128, R143. -/
def Obligations.SwitchLawKept : Prop :=
  ∀ s t : State, (∀ n, SwitchLaw (s.switch n)) → step s = .next t → ∀ n, SwitchLaw (t.switch n)

/-- R148, R149, R154, R160. -/
def Obligations.PwmLawKept : Prop := ∀ s t : State, PwmLaw s → step s = .next t → PwmLaw t

/-- R83, R84, R122 of the capture FIFO and the trip log; R78 of the results, with the law of the queue and the engine, from which
the samples of a result come. -/
def Obligations.StoreLawsKept : Prop :=
  (∀ s t : State, FifoLaw s.fifo ∧ TripLogLaw s.tripLog → step s = .next t → FifoLaw t.fifo ∧ TripLogLaw t.tripLog) ∧
  (∀ s t : State, QueueLaw s → (∀ n, ResultLaw (s.result n)) → step s = .next t → ∀ n, ResultLaw (t.result n))
end

