-- ==== Sys2Proof/Laws/Frame.lean ====
section
/-! SUPPORT. Which blocks each shared operation can change: `op_within : Within bs s (s.op …)`. A field outside `bs` is
recovered with `(op_within …).field`, as in `(grant_within s).slots`. -/

namespace Sys2Proof.Safety.Within

open Sys2Proof.Machine

variable {bs cs : List Block} {s t u : State}

theorem refl : Within bs s s := ⟨fun b _ => by cases b <;> rfl⟩

theorem trans (h : Within bs s t) (k : Within bs t u) : Within bs s u := ⟨fun b hb => by
  have h1 := h.same b hb
  have h2 := k.same b hb
  cases b <;> exact Eq.trans h2 h1⟩

theorem mono (h : Within bs s t) (hs : bs ⊆ cs := by decide) : Within cs s t :=
  ⟨fun b hb => h.same b fun hc => hb (hs hc)⟩

/-- Two operations in a row, each within its own blocks. -/
theorem seq {ds : List Block} (h : Within bs s t) (k : Within cs t u) (hb : bs ⊆ ds := by decide)
    (hc : cs ⊆ ds := by decide) : Within ds s u := (h.mono hb).trans (k.mono hc)

theorem foldl {α : Type} {f : State → α → State} (h : ∀ s a, Within bs s (f s a)) (l : List α) (s : State) :
    Within bs s (l.foldl f s) := by
  induction l generalizing s with
  | nil => exact refl
  | cons a l ih => exact (h s a).trans (ih _)

theorem ite {c : Prop} [Decidable c] (h : Within bs s t) (k : Within bs s u) : Within bs s (if c then t else u) := by
  split <;> assumption

theorem slots (h : Within bs s t) (hb : Block.slots ∉ bs := by decide) : t.slots = s.slots := h.same _ hb
theorem staging (h : Within bs s t) (hb : Block.staging ∉ bs := by decide) : t.staging = s.staging := h.same _ hb
theorem triggers (h : Within bs s t) (hb : Block.triggers ∉ bs := by decide) : t.triggers = s.triggers := h.same _ hb
theorem queue (h : Within bs s t) (hb : Block.queue ∉ bs := by decide) : t.queue = s.queue := h.same _ hb
theorem engine (h : Within bs s t) (hb : Block.engine ∉ bs := by decide) : t.engine = s.engine := h.same _ hb
theorem results (h : Within bs s t) (hb : Block.results ∉ bs := by decide) : t.results = s.results := h.same _ hb
theorem fifo (h : Within bs s t) (hb : Block.fifo ∉ bs := by decide) : t.fifo = s.fifo := h.same _ hb
theorem watch (h : Within bs s t) (hb : Block.watch ∉ bs := by decide) : t.watch = s.watch := h.same _ hb
theorem tripLog (h : Within bs s t) (hb : Block.tripLog ∉ bs := by decide) : t.tripLog = s.tripLog := h.same _ hb
theorem switches (h : Within bs s t) (hb : Block.switches ∉ bs := by decide) : t.switches = s.switches := h.same _ hb
theorem pwm (h : Within bs s t) (hb : Block.pwm ∉ bs := by decide) : t.pwm = s.pwm := h.same _ hb
theorem events (h : Within bs s t) (hb : Block.events ∉ bs := by decide) : t.events = s.events := h.same _ hb
theorem mode (h : Within bs s t) (hb : Block.mode ∉ bs := by decide) : t.mode = s.mode := h.same _ hb
theorem port (h : Within bs s t) (hb : Block.port ∉ bs := by decide) : t.port = s.port := h.same _ hb
theorem choices (h : Within bs s t) (hb : Block.choices ∉ bs := by decide) : t.choices = s.choices := h.same _ hb
theorem pending (h : Within bs s t) (hb : Block.pending ∉ bs := by decide) : t.pending = s.pending := h.same _ hb

/-! Rows of a block that is left alone. -/

theorem record (h : Within bs s t) (n : SlotIx) (hb : Block.slots ∉ bs := by decide) : t.record n = s.record n := by
  simp only [State.record, h.slots hb]

theorem slotRt (h : Within bs s t) (n : SlotIx) (hb : Block.slots ∉ bs := by decide) : t.slotRt n = s.slotRt n := by
  simp only [State.slotRt, h.slots hb]

theorem rule (h : Within bs s t) (n : RuleIx) (hb : Block.watch ∉ bs := by decide) : t.rule n = s.rule n := by
  simp only [State.rule, h.watch hb]

theorem ruleRt (h : Within bs s t) (n : RuleIx) (hb : Block.watch ∉ bs := by decide) : t.ruleRt n = s.ruleRt n := by
  simp only [State.ruleRt, h.watch hb]

theorem countdown (h : Within bs s t) (n : SlotIx) (hb : Block.triggers ∉ bs := by decide) :
    t.countdown n = s.countdown n := by
  simp only [State.countdown, h.triggers hb]

theorem decim (h : Within bs s t) (n : SlotIx) (hb : Block.triggers ∉ bs := by decide) : t.decim n = s.decim n := by
  simp only [State.decim, h.triggers hb]

theorem result (h : Within bs s t) (n : SlotIx) (hb : Block.results ∉ bs := by decide) : t.result n = s.result n := by
  simp only [State.result, h.results hb]

theorem switch (h : Within bs s t) (n : SwIx) (hb : Block.switches ∉ bs := by decide) : t.switch n = s.switch n := by
  simp only [State.switch, h.switches hb]

theorem channel (h : Within bs s t) (c : ChIx) (hb : Block.pwm ∉ bs := by decide) : t.channel c = s.channel c := by
  simp only [State.channel, h.pwm hb]

theorem now (h : Within bs s t) (hb : Block.triggers ∉ bs := by decide) : t.now = s.now := by
  simp only [State.now, h.triggers hb]

end Sys2Proof.Safety.Within

namespace Sys2Proof.Machine.State

open Sys2Proof.Safety

variable (s : State)

/-! ## Single updates -/

theorem setRecord_within (n r) : Within [.slots] s (s.setRecord n r) := ⟨fun b hb => by
  cases b <;> first | rfl | exact (hb (by decide)).elim⟩

theorem setSlotRt_within (n r) : Within [.slots] s (s.setSlotRt n r) := ⟨fun b hb => by
  cases b <;> first | rfl | exact (hb (by decide)).elim⟩

theorem setRule_within (n r) : Within [.watch] s (s.setRule n r) := ⟨fun b hb => by
  cases b <;> first | rfl | exact (hb (by decide)).elim⟩

theorem setRuleRt_within (n r) : Within [.watch] s (s.setRuleRt n r) := ⟨fun b hb => by
  cases b <;> first | rfl | exact (hb (by decide)).elim⟩

theorem setCountdown_within (n c) : Within [.triggers] s (s.setCountdown n c) := ⟨fun b hb => by
  cases b <;> first | rfl | exact (hb (by decide)).elim⟩

theorem setDecim_within (n k) : Within [.triggers] s (s.setDecim n k) := ⟨fun b hb => by
  cases b <;> first | rfl | exact (hb (by decide)).elim⟩

theorem setResult_within (n r) : Within [.results] s (s.setResult n r) := ⟨fun b hb => by
  cases b <;> first | rfl | exact (hb (by decide)).elim⟩

theorem setSwitch_within (n w) : Within [.switches] s (s.setSwitch n w) := ⟨fun b hb => by
  cases b <;> first | rfl | exact (hb (by decide)).elim⟩

theorem setChannel_within (c x) : Within [.pwm] s (s.setChannel c x) := ⟨fun b hb => by
  cases b <;> first | rfl | exact (hb (by decide)).elim⟩

theorem setEngine_within (e) : Within [.engine] s (s.setEngine e) := ⟨fun b hb => by
  cases b <;> first | rfl | exact (hb (by decide)).elim⟩

theorem setQueue_within (q) : Within [.queue] s (s.setQueue q) := ⟨fun b hb => by
  cases b <;> first | rfl | exact (hb (by decide)).elim⟩

theorem setSublists_within (u l) : Within [.queue] s (s.setSublists u l) := setQueue_within s _

theorem setTriggers_within (t) : Within [.triggers] s (s.setTriggers t) := ⟨fun b hb => by
  cases b <;> first | rfl | exact (hb (by decide)).elim⟩

theorem setStaging_within (g) : Within [.staging] s (s.setStaging g) := ⟨fun b hb => by
  cases b <;> first | rfl | exact (hb (by decide)).elim⟩

theorem setFifo_within (f) : Within [.fifo] s (s.setFifo f) := ⟨fun b hb => by
  cases b <;> first | rfl | exact (hb (by decide)).elim⟩

theorem setTripLog_within (l) : Within [.tripLog] s (s.setTripLog l) := ⟨fun b hb => by
  cases b <;> first | rfl | exact (hb (by decide)).elim⟩

theorem setEvents_within (e) : Within [.events] s (s.setEvents e) := ⟨fun b hb => by
  cases b <;> first | rfl | exact (hb (by decide)).elim⟩

theorem setPort_within (p) : Within [.port] s (s.setPort p) := ⟨fun b hb => by
  cases b <;> first | rfl | exact (hb (by decide)).elim⟩

theorem setMode_within (m) : Within [.mode] s (s.setMode m) := ⟨fun b hb => by
  cases b <;> first | rfl | exact (hb (by decide)).elim⟩

theorem useChoice_within : Within [.choices] s s.useChoice := ⟨fun b hb => by
  cases b <;> first | rfl | exact (hb (by decide)).elim⟩

theorem setOutcome_within (n o) : Within [.slots] s (s.setOutcome n o) := setSlotRt_within ..

/-! ## Events and the response -/

theorem occur_within (k) : Within [.events] s (s.occur k) := setEvents_within ..

theorem occurIf_within (c k) : Within [.events] s (s.occurIf c k) := .ite (occur_within ..) .refl

theorem faultUpdate_within : Within [.events] s s.faultUpdate := setEvents_within ..

theorem endCommand_within (code r) : Within [.events, .port] s (s.endCommand code r) :=
  (occurIf_within ..).seq (setPort_within ..)

theorem respond_within (addr d) : Within [.port] s (s.respond addr d) := setPort_within ..

theorem respondRejected_within : Within [.port] s s.respondRejected := setPort_within ..

/-! ## Queue and arbiter -/

theorem startSample_within (j) : Within [.engine] s (s.startSample j) := ⟨fun b hb => by
  cases b <;> first | rfl | exact (hb (by decide)).elim⟩

theorem startJob_within (e) : Within [.engine] s (s.startJob e) := startSample_within ..

theorem grant_within : Within [.queue, .engine] s s.grant := by
  unfold grant
  split
  · split
    · exact (setSublists_within ..).seq (startJob_within ..)
    · exact (setSublists_within ..).seq (startJob_within ..)
    · exact .refl
  · exact .refl
  · exact .refl

theorem countOverrun_within (n) : Within [.slots, .events] s (s.countOverrun n) :=
  (setSlotRt_within ..).seq (occur_within ..)

theorem enqueue_within (o n) : Within [.queue, .engine] s (s.enqueue o n) := (setQueue_within ..).seq (grant_within _)

/-- The blocks a request can change (R23, R24, R29). -/
abbrev requestBlocks : List Block := [.slots, .queue, .engine, .events]

theorem request_within (o n) : Within requestBlocks s (s.request o n) :=
  .ite (.ite .refl (countOverrun_within ..).mono) (enqueue_within ..).mono

theorem withdraw_within (keep) : Within [.queue] s (s.withdraw keep) := setQueue_within ..

theorem absorbPlain_within (n) : Within [.slots, .queue, .events] s (s.absorbPlain n) :=
  .ite ((setSublists_within ..).seq (countOverrun_within ..)) .refl

theorem suspend_within (j) : Within requestBlocks s (s.suspend j) := by
  unfold suspend
  exact (((absorbPlain_within ..).seq (cs := [.queue]) (ds := requestBlocks) (setSublists_within ..)).seq
    (cs := [.engine]) (ds := requestBlocks) (setEngine_within ..)).seq (grant_within _)

theorem captureEntry_within : Within [.queue] s s.captureEntry := setQueue_within ..

theorem writeQueueSel_within (d) : Within [.queue] s (s.writeQueueSel d) := setQueue_within ..

/-! ## Trigger sources -/

theorem raise_within (o n) : Within requestBlocks s (s.raise o n) := .ite (request_within ..) .refl

theorem raiseAll_within (o f) : Within requestBlocks s (s.raiseAll o f) :=
  .foldl (fun t n => .ite (raise_within t o n) .refl) _ _

/-- The blocks a trigger source's event can change. -/
abbrev sourceBlocks : List Block := [.triggers, .slots, .queue, .engine, .events]

theorem expire_within (n) : Within sourceBlocks s (s.expire n) := by
  unfold expire
  split
  · exact (setCountdown_within ..).seq (raise_within ..)
  all_goals exact .refl

theorem periodicExpiry_within (n) : Within sourceBlocks s (s.periodicExpiry n) := .ite (expire_within ..) .refl

theorem restartTriggers_within (n) : Within sourceBlocks s (s.restartTriggers n) := by
  unfold restartTriggers
  simp only
  split
  · split
    · exact ((setDecim_within ..).seq (ds := [.triggers]) (setCountdown_within ..)).seq (raise_within ..)
    · exact (setDecim_within ..).seq (setCountdown_within ..)
  · exact (setDecim_within ..).seq (setCountdown_within ..)

theorem edge_within (pin l) : Within sourceBlocks s (s.edge pin l) :=
  .ite (setTriggers_within ..).mono
    (((setTriggers_within ..).seq (ds := [.triggers]) (setTriggers_within ..)).seq (raiseAll_within ..))

theorem countPoint_within (c n) : Within sourceBlocks s (countPoint c s n) := by
  unfold countPoint
  split
  · split
    · split
      · exact (setDecim_within ..).seq (raise_within ..)
      · exact (setDecim_within ..).mono
    · exact .refl
  all_goals exact .refl

theorem triggerPoint_within (c) : Within sourceBlocks s (s.triggerPoint c) :=
  .foldl (fun t n => countPoint_within t c n) _ _

theorem requestFollowers_within (n) : Within requestBlocks s (s.requestFollowers n) := raiseAll_within ..

theorem captureTime_within : Within [.triggers] s s.captureTime := setTriggers_within ..

/-! ## PWM channels -/

theorem pointAtStart_within (c) : Within sourceBlocks s (s.pointAtStart c) := .ite (triggerPoint_within ..) .refl

theorem startPeriod_within (c) : Within (.pwm :: sourceBlocks) s (s.startPeriod c) :=
  (setChannel_within ..).seq (pointAtStart_within ..)

theorem periodEnd_within (c) : Within (.pwm :: sourceBlocks) s (s.periodEnd c) :=
  .ite ((setChannel_within ..).seq (pointAtStart_within ..)) .refl

theorem dutyEnd_within (c) : Within [.pwm] s (s.dutyEnd c) := .ite (setChannel_within ..) .refl

theorem pointReached_within (c) : Within (.pwm :: sourceBlocks) s (s.pointReached c) :=
  .ite ((setChannel_within ..).seq (triggerPoint_within ..)) .refl

theorem writePwmCtrl_within (c d) : Within (.pwm :: sourceBlocks) s (writePwmCtrl c d s) := by
  unfold writePwmCtrl
  simp only
  split
  · split
    · exact (setChannel_within ..).seq (startPeriod_within ..)
    · exact (setChannel_within ..).mono
  · exact (setChannel_within ..).seq (setChannel_within ..)
  all_goals exact (setChannel_within ..).mono

theorem writePwmConfig_within (c r d) : Within [.pwm] s (writePwmConfig c r d s) := by
  unfold writePwmConfig
  cases r
  · exact .ite .refl (setChannel_within ..)
  all_goals exact setChannel_within ..

theorem stopChannels_within : Within [.pwm] s s.stopChannels := ⟨fun b hb => by
  cases b <;> first | rfl | exact (hb (by decide)).elim⟩

theorem startChannels_within : Within [.pwm] s s.startChannels := ⟨fun b hb => by
  cases b <;> first | rfl | exact (hb (by decide)).elim⟩

/-! ## Mode control -/

theorem abandonJob_within (j) : Within [.slots, .queue, .engine] s (s.abandonJob j) :=
  ((setOutcome_within ..).seq (ds := [.slots, .engine]) (setEngine_within ..)).seq (grant_within _)

theorem guardAbort_within : Within [.slots, .queue, .engine] s s.guardAbort := by
  unfold guardAbort
  split
  · exact .ite .refl (abandonJob_within ..)
  all_goals exact .refl

theorem freezeCountdowns_within : Within [.triggers] s s.freezeCountdowns := setTriggers_within ..

theorem enterGuard_within : Within [.mode, .queue, .triggers, .pwm, .slots, .engine] s s.enterGuard :=
  ((((setMode_within ..).seq (ds := [.mode, .queue]) (withdraw_within ..)).seq (ds := [.mode, .queue, .triggers])
    (freezeCountdowns_within _)).seq (ds := [.mode, .queue, .triggers, .pwm]) (stopChannels_within _)).seq
      (guardAbort_within _)

theorem takeReleased_within (o) : Within sourceBlocks s (s.takeReleased o) := by
  cases o
  · exact expire_within ..
  · exact triggerPoint_within ..

theorem takeAllReleased_within (k os) : Within (.choices :: sourceBlocks) s (takeAllReleased k os s) := by
  induction k generalizing os s with
  | zero => exact .refl
  | succ k ih =>
    match os with
    | [] => exact .refl
    | [o] => exact (takeReleased_within s o).mono
    | o :: p :: os =>
      exact Within.trans ((useChoice_within s).seq (takeReleased_within ..)) (ih _ _)

theorem thawCountdowns_within : Within [.triggers] s s.thawCountdowns := setTriggers_within ..

/-- The blocks a GUARD exit can change (R182). -/
abbrev exitBlocks : List Block := [.mode, .events, .triggers, .pwm, .choices, .slots, .queue, .engine]

theorem leaveGuard_within (c) : Within exitBlocks s (s.leaveGuard c) :=
  Within.seq (bs := exitBlocks)
    ((((setMode_within ..).seq (ds := [.mode, .events]) (occur_within ..)).seq (ds := [.mode, .events, .triggers])
      (thawCountdowns_within _)).seq (startChannels_within _))
    (takeAllReleased_within ..)

theorem wakeExit_within (r) : Within exitBlocks s (s.wakeExit r) := by
  unfold wakeExit
  split
  · exact leaveGuard_within ..
  · exact .refl

theorem writeGuardCtrl_within (d) : Within [.mode] s (writeGuardCtrl d s) := setMode_within ..

/-! ## Watch rules -/

theorem arriveHold_within (n m k) : Within [.switches] s (arriveHold n m s k) := .ite (setSwitch_within ..) .refl

theorem arriveForce_within (n m c) : Within [.pwm] s (arriveForce n m s c) := .ite (setChannel_within ..) .refl

theorem arriveCap_within (n c) : Within [.pwm] s (s.arriveCap n c) := by
  unfold arriveCap
  split
  · exact setChannel_within ..
  · exact .refl

theorem placeClaims_within (n) : Within [.switches, .pwm] s (s.placeClaims n) :=
  ((Within.foldl (fun t k => arriveHold_within t n _ k) _ _).seq (ds := [.switches, .pwm])
    (Within.foldl (fun t c => arriveForce_within t n _ c) _ _)).seq (arriveCap_within ..)

theorem withdrawClaims_within (n) : Within [.switches, .pwm] s (s.withdrawClaims n) := ⟨fun b hb => by
  cases b <;> first | rfl | exact (hb (by decide)).elim⟩

theorem logTrip_within (e) : Within [.tripLog, .events] s (s.logTrip e) :=
  .ite ((setTripLog_within ..).seq (occurIf_within ..)) ((setTripLog_within ..).seq (occur_within ..))

theorem snapshotRequest_within (n) : Within requestBlocks s (s.snapshotRequest n) := by
  unfold snapshotRequest
  split
  · exact raise_within ..
  · exact .refl

theorem snapshotAndExit_within (n) : Within exitBlocks s (s.snapshotAndExit n) := by
  unfold snapshotAndExit
  simp only
  split
  · split
    · split
      · exact (((useChoice_within s).seq (ds := exitBlocks) (snapshotRequest_within ..)).seq (ds := exitBlocks)
          (occurIf_within ..)).trans (wakeExit_within ..)
      · exact (((useChoice_within s).seq (ds := exitBlocks) (occurIf_within ..)).trans (wakeExit_within ..)).seq
          (snapshotRequest_within ..)
    · exact (occurIf_within ..).seq (wakeExit_within ..)
  · exact (snapshotRequest_within ..).seq (occurIf_within ..)

/-- The blocks a trip can change (R111). -/
abbrev tripBlocks : List Block :=
  [.watch, .switches, .pwm, .events, .tripLog, .mode, .triggers, .choices, .slots, .queue, .engine]

theorem trip_within (n res) : Within tripBlocks s (s.trip n res) :=
  ((((((setRuleRt_within ..).seq (ds := tripBlocks) (placeClaims_within ..)).seq (ds := tripBlocks)
    (faultUpdate_within _)).seq (ds := tripBlocks) (logTrip_within ..)).seq (ds := tripBlocks)
      (setRuleRt_within ..)).seq (ds := tripBlocks) (snapshotAndExit_within ..)).seq (setRuleRt_within ..)

/-- The blocks a release into CLEAR can change (R114). -/
abbrev releaseBlocks : List Block := [.watch, .switches, .pwm, .events]

theorem clearRule_within (n) : Within releaseBlocks s (s.clearRule n) :=
  (((setRuleRt_within ..).seq (ds := releaseBlocks) (withdrawClaims_within ..)).seq (ds := releaseBlocks)
    (faultUpdate_within _)).seq (occurIf_within ..)

theorem release_within (n) : Within releaseBlocks s (s.release n) :=
  .ite (setRuleRt_within ..).mono (clearRule_within ..)

theorem moveRule_within (n st run) : Within [.watch] s (s.moveRule n st run) := setRuleRt_within ..

theorem countQualifying_within (n res run) : Within tripBlocks s (s.countQualifying n res run) :=
  .ite (trip_within ..) (moveRule_within ..).mono

theorem countReleasing_within (n run) : Within releaseBlocks s (s.countReleasing n run) :=
  .ite (release_within ..) (moveRule_within ..).mono

theorem judge_within (n res) : Within tripBlocks s (s.judge n res) := by
  unfold judge
  split
  all_goals first
    | exact .refl
    | exact countQualifying_within ..
    | exact (countReleasing_within ..).mono
    | exact (moveRule_within ..).mono

theorem keepPrevious_within (n res) : Within [.watch] s (s.keepPrevious n res) := .ite (setRuleRt_within ..) .refl

theorem evaluate_within (a res n) : Within tripBlocks s (evaluate a res s n) :=
  .ite ((judge_within ..).seq (keepPrevious_within ..)) .refl

theorem evaluateRules_within (a res) : Within tripBlocks s (s.evaluateRules a res) :=
  .foldl (fun t n => evaluate_within t a res n) _ _

theorem disarmRule_within (n) : Within releaseBlocks s (s.disarmRule n) :=
  .ite (((setRuleRt_within ..).seq (ds := releaseBlocks) (withdrawClaims_within ..)).seq (faultUpdate_within _))
    (setRuleRt_within ..).mono

theorem writeTriplogSel_within (d) : Within [.tripLog] s (writeTriplogSel d s) := by
  unfold writeTriplogSel
  split
  · exact setTripLog_within ..
  · exact .refl

/-! ## Results and engine -/

theorem push_within (e) : Within [.fifo, .events] s (s.push e) := by
  unfold push
  split
  · exact (setFifo_within ..).seq (occurIf_within ..)
  · split
    all_goals exact (setFifo_within ..).seq (occur_within ..)

theorem writeResult_within (d) : Within [.results] s (s.writeResult d) := setResult_within ..

theorem captureResult_within (n) : Within [.fifo, .events] s (s.captureResult n) := .ite (push_within ..) .refl

/-- The blocks a delivery can change (R80). -/
abbrev deliveryBlocks : List Block := .results :: .fifo :: tripBlocks

theorem deliver_within (d) : Within deliveryBlocks s (s.deliver d) :=
  (((writeResult_within ..).seq (ds := deliveryBlocks) (captureResult_within ..)).seq (ds := deliveryBlocks)
    (evaluateRules_within ..)).seq (requestFollowers_within ..)

theorem writeResultSel_within (d) : Within [.results] s (writeResultSel d s) := by
  unfold writeResultSel
  split
  · exact ⟨fun b hb => by cases b <;> first | rfl | exact (hb (by decide)).elim⟩
  · exact .refl

theorem endStale_within (j) : Within [.slots, .queue, .engine] s (s.endStale j) :=
  ((setOutcome_within ..).seq (ds := [.slots, .engine]) (setEngine_within ..)).seq (grant_within _)

theorem endStored_within (j) : Within deliveryBlocks s (s.endStored j) :=
  (((deliver_within ..).seq (ds := deliveryBlocks) (setOutcome_within ..)).seq (ds := deliveryBlocks)
    (setEngine_within ..)).seq (grant_within _)

theorem afterSample_within (j) : Within deliveryBlocks s (s.afterSample j) :=
  .ite (endStale_within ..).mono (.ite (endStored_within ..) (.ite (suspend_within ..).mono (startSample_within ..).mono))

theorem completion_within (k raw) : Within deliveryBlocks s (s.completion k raw) := by
  unfold completion
  split
  · exact .ite (afterSample_within ..) .refl
  all_goals exact .refl

theorem endFailed_within (j) : Within deliveryBlocks s (s.endFailed j) :=
  .ite (setOutcome_within ..).mono ((deliver_within ..).seq (setOutcome_within ..))

theorem enterFaulted_within (f) : Within [.engine] s (s.enterFaulted f) := ⟨fun b hb => by
  cases b <;> first | rfl | exact (hb (by decide)).elim⟩

theorem deadlineExpiry_within : Within deliveryBlocks s s.deadlineExpiry := by
  unfold deadlineExpiry
  split
  · exact .ite (((endFailed_within ..).seq (ds := deliveryBlocks) (enterFaulted_within ..)).seq (occur_within ..)) .refl
  all_goals exact .refl

theorem captureJob_within : Within [.engine] s s.captureJob := ⟨fun b hb => by
  cases b <;> first | rfl | exact (hb (by decide)).elim⟩

theorem captureFault_within : Within [.engine] s s.captureFault := ⟨fun b hb => by
  cases b <;> first | rfl | exact (hb (by decide)).elim⟩

/-! ## Table editor -/

theorem withdrawJob_within (n) : Within [.engine] s (s.withdrawJob n) := by
  unfold withdrawJob
  split
  · exact .ite (setEngine_within ..) .refl
  all_goals exact .refl

/-- The blocks the installation of a slot record can change (R15 to R19). -/
abbrev installBlocks : List Block := .results :: sourceBlocks

theorem installSlot_within (n r) : Within installBlocks s (s.installSlot n r) :=
  (((((setRecord_within ..).seq (ds := installBlocks) (withdraw_within ..)).seq (ds := installBlocks)
    (withdrawJob_within ..)).seq (ds := installBlocks) (setResult_within ..))).seq (restartTriggers_within ..)

theorem stageInstalledSlot_within (n r) : Within [.staging] s (s.stageInstalledSlot n r) := setStaging_within ..

theorem installRule_within (n r) : Within [.watch] s (s.installRule n r) :=
  (setRule_within ..).trans (setRuleRt_within ..)

theorem stageInstalledRule_within (n r) : Within [.staging] s (s.stageInstalledRule n r) := setStaging_within ..

theorem clearIndication_within : Within [.port] s s.clearIndication := setPort_within ..

theorem tick_within (k) : Within [.triggers, .switches, .pwm, .events] s (s.tick k) := ⟨fun b hb => by
  cases b <;> first | rfl | exact (hb (by decide)).elim⟩

end Sys2Proof.Machine.State
end

