-- ==== Sys2Proof/Laws/State.lean ====
section
/-! SUPPORT. What each named update of the state does to each field, and what the row reads give after a row update. -/

namespace Sys2Proof.Machine

/-- Row `j` of a table whose row `i` has been set. -/
theorem get_set {n : Nat} {α : Type} (v : Vector α n) (i j : Fin n) (x : α) :
    (v.set i x)[j] = if j = i then x else v[j] := by
  by_cases h : j = i <;> simp_all [Fin.ext_iff, eq_comm]

end Sys2Proof.Machine

namespace Sys2Proof.Machine.State

variable (s : State)

/-! ### setRecord -/

@[simp] theorem setRecord_slots (n : SlotIx) (r : SlotRecord) : (s.setRecord n r).slots = { s.slots with records := s.slots.records.set n r } := rfl
@[simp] theorem setRecord_staging (n : SlotIx) (r : SlotRecord) : (s.setRecord n r).staging = s.staging := rfl
@[simp] theorem setRecord_triggers (n : SlotIx) (r : SlotRecord) : (s.setRecord n r).triggers = s.triggers := rfl
@[simp] theorem setRecord_queue (n : SlotIx) (r : SlotRecord) : (s.setRecord n r).queue = s.queue := rfl
@[simp] theorem setRecord_engine (n : SlotIx) (r : SlotRecord) : (s.setRecord n r).engine = s.engine := rfl
@[simp] theorem setRecord_results (n : SlotIx) (r : SlotRecord) : (s.setRecord n r).results = s.results := rfl
@[simp] theorem setRecord_fifo (n : SlotIx) (r : SlotRecord) : (s.setRecord n r).fifo = s.fifo := rfl
@[simp] theorem setRecord_watch (n : SlotIx) (r : SlotRecord) : (s.setRecord n r).watch = s.watch := rfl
@[simp] theorem setRecord_tripLog (n : SlotIx) (r : SlotRecord) : (s.setRecord n r).tripLog = s.tripLog := rfl
@[simp] theorem setRecord_switches (n : SlotIx) (r : SlotRecord) : (s.setRecord n r).switches = s.switches := rfl
@[simp] theorem setRecord_pwm (n : SlotIx) (r : SlotRecord) : (s.setRecord n r).pwm = s.pwm := rfl
@[simp] theorem setRecord_events (n : SlotIx) (r : SlotRecord) : (s.setRecord n r).events = s.events := rfl
@[simp] theorem setRecord_mode (n : SlotIx) (r : SlotRecord) : (s.setRecord n r).mode = s.mode := rfl
@[simp] theorem setRecord_port (n : SlotIx) (r : SlotRecord) : (s.setRecord n r).port = s.port := rfl
@[simp] theorem setRecord_choices (n : SlotIx) (r : SlotRecord) : (s.setRecord n r).choices = s.choices := rfl
@[simp] theorem setRecord_pending (n : SlotIx) (r : SlotRecord) : (s.setRecord n r).pending = s.pending := rfl

/-! ### setSlotRt -/

@[simp] theorem setSlotRt_slots (n : SlotIx) (r : SlotRuntime) : (s.setSlotRt n r).slots = { s.slots with runtime := s.slots.runtime.set n r } := rfl
@[simp] theorem setSlotRt_staging (n : SlotIx) (r : SlotRuntime) : (s.setSlotRt n r).staging = s.staging := rfl
@[simp] theorem setSlotRt_triggers (n : SlotIx) (r : SlotRuntime) : (s.setSlotRt n r).triggers = s.triggers := rfl
@[simp] theorem setSlotRt_queue (n : SlotIx) (r : SlotRuntime) : (s.setSlotRt n r).queue = s.queue := rfl
@[simp] theorem setSlotRt_engine (n : SlotIx) (r : SlotRuntime) : (s.setSlotRt n r).engine = s.engine := rfl
@[simp] theorem setSlotRt_results (n : SlotIx) (r : SlotRuntime) : (s.setSlotRt n r).results = s.results := rfl
@[simp] theorem setSlotRt_fifo (n : SlotIx) (r : SlotRuntime) : (s.setSlotRt n r).fifo = s.fifo := rfl
@[simp] theorem setSlotRt_watch (n : SlotIx) (r : SlotRuntime) : (s.setSlotRt n r).watch = s.watch := rfl
@[simp] theorem setSlotRt_tripLog (n : SlotIx) (r : SlotRuntime) : (s.setSlotRt n r).tripLog = s.tripLog := rfl
@[simp] theorem setSlotRt_switches (n : SlotIx) (r : SlotRuntime) : (s.setSlotRt n r).switches = s.switches := rfl
@[simp] theorem setSlotRt_pwm (n : SlotIx) (r : SlotRuntime) : (s.setSlotRt n r).pwm = s.pwm := rfl
@[simp] theorem setSlotRt_events (n : SlotIx) (r : SlotRuntime) : (s.setSlotRt n r).events = s.events := rfl
@[simp] theorem setSlotRt_mode (n : SlotIx) (r : SlotRuntime) : (s.setSlotRt n r).mode = s.mode := rfl
@[simp] theorem setSlotRt_port (n : SlotIx) (r : SlotRuntime) : (s.setSlotRt n r).port = s.port := rfl
@[simp] theorem setSlotRt_choices (n : SlotIx) (r : SlotRuntime) : (s.setSlotRt n r).choices = s.choices := rfl
@[simp] theorem setSlotRt_pending (n : SlotIx) (r : SlotRuntime) : (s.setSlotRt n r).pending = s.pending := rfl

/-! ### setRule -/

@[simp] theorem setRule_slots (n : RuleIx) (r : WatchRecord) : (s.setRule n r).slots = s.slots := rfl
@[simp] theorem setRule_staging (n : RuleIx) (r : WatchRecord) : (s.setRule n r).staging = s.staging := rfl
@[simp] theorem setRule_triggers (n : RuleIx) (r : WatchRecord) : (s.setRule n r).triggers = s.triggers := rfl
@[simp] theorem setRule_queue (n : RuleIx) (r : WatchRecord) : (s.setRule n r).queue = s.queue := rfl
@[simp] theorem setRule_engine (n : RuleIx) (r : WatchRecord) : (s.setRule n r).engine = s.engine := rfl
@[simp] theorem setRule_results (n : RuleIx) (r : WatchRecord) : (s.setRule n r).results = s.results := rfl
@[simp] theorem setRule_fifo (n : RuleIx) (r : WatchRecord) : (s.setRule n r).fifo = s.fifo := rfl
@[simp] theorem setRule_watch (n : RuleIx) (r : WatchRecord) : (s.setRule n r).watch = { s.watch with records := s.watch.records.set n r } := rfl
@[simp] theorem setRule_tripLog (n : RuleIx) (r : WatchRecord) : (s.setRule n r).tripLog = s.tripLog := rfl
@[simp] theorem setRule_switches (n : RuleIx) (r : WatchRecord) : (s.setRule n r).switches = s.switches := rfl
@[simp] theorem setRule_pwm (n : RuleIx) (r : WatchRecord) : (s.setRule n r).pwm = s.pwm := rfl
@[simp] theorem setRule_events (n : RuleIx) (r : WatchRecord) : (s.setRule n r).events = s.events := rfl
@[simp] theorem setRule_mode (n : RuleIx) (r : WatchRecord) : (s.setRule n r).mode = s.mode := rfl
@[simp] theorem setRule_port (n : RuleIx) (r : WatchRecord) : (s.setRule n r).port = s.port := rfl
@[simp] theorem setRule_choices (n : RuleIx) (r : WatchRecord) : (s.setRule n r).choices = s.choices := rfl
@[simp] theorem setRule_pending (n : RuleIx) (r : WatchRecord) : (s.setRule n r).pending = s.pending := rfl

/-! ### setRuleRt -/

@[simp] theorem setRuleRt_slots (n : RuleIx) (r : RuleRuntime) : (s.setRuleRt n r).slots = s.slots := rfl
@[simp] theorem setRuleRt_staging (n : RuleIx) (r : RuleRuntime) : (s.setRuleRt n r).staging = s.staging := rfl
@[simp] theorem setRuleRt_triggers (n : RuleIx) (r : RuleRuntime) : (s.setRuleRt n r).triggers = s.triggers := rfl
@[simp] theorem setRuleRt_queue (n : RuleIx) (r : RuleRuntime) : (s.setRuleRt n r).queue = s.queue := rfl
@[simp] theorem setRuleRt_engine (n : RuleIx) (r : RuleRuntime) : (s.setRuleRt n r).engine = s.engine := rfl
@[simp] theorem setRuleRt_results (n : RuleIx) (r : RuleRuntime) : (s.setRuleRt n r).results = s.results := rfl
@[simp] theorem setRuleRt_fifo (n : RuleIx) (r : RuleRuntime) : (s.setRuleRt n r).fifo = s.fifo := rfl
@[simp] theorem setRuleRt_watch (n : RuleIx) (r : RuleRuntime) : (s.setRuleRt n r).watch = { s.watch with runtime := s.watch.runtime.set n r } := rfl
@[simp] theorem setRuleRt_tripLog (n : RuleIx) (r : RuleRuntime) : (s.setRuleRt n r).tripLog = s.tripLog := rfl
@[simp] theorem setRuleRt_switches (n : RuleIx) (r : RuleRuntime) : (s.setRuleRt n r).switches = s.switches := rfl
@[simp] theorem setRuleRt_pwm (n : RuleIx) (r : RuleRuntime) : (s.setRuleRt n r).pwm = s.pwm := rfl
@[simp] theorem setRuleRt_events (n : RuleIx) (r : RuleRuntime) : (s.setRuleRt n r).events = s.events := rfl
@[simp] theorem setRuleRt_mode (n : RuleIx) (r : RuleRuntime) : (s.setRuleRt n r).mode = s.mode := rfl
@[simp] theorem setRuleRt_port (n : RuleIx) (r : RuleRuntime) : (s.setRuleRt n r).port = s.port := rfl
@[simp] theorem setRuleRt_choices (n : RuleIx) (r : RuleRuntime) : (s.setRuleRt n r).choices = s.choices := rfl
@[simp] theorem setRuleRt_pending (n : RuleIx) (r : RuleRuntime) : (s.setRuleRt n r).pending = s.pending := rfl

/-! ### setCountdown -/

@[simp] theorem setCountdown_slots (n : SlotIx) (c : Countdown) : (s.setCountdown n c).slots = s.slots := rfl
@[simp] theorem setCountdown_staging (n : SlotIx) (c : Countdown) : (s.setCountdown n c).staging = s.staging := rfl
@[simp] theorem setCountdown_triggers (n : SlotIx) (c : Countdown) : (s.setCountdown n c).triggers = { s.triggers with countdowns := s.triggers.countdowns.set n c } := rfl
@[simp] theorem setCountdown_queue (n : SlotIx) (c : Countdown) : (s.setCountdown n c).queue = s.queue := rfl
@[simp] theorem setCountdown_engine (n : SlotIx) (c : Countdown) : (s.setCountdown n c).engine = s.engine := rfl
@[simp] theorem setCountdown_results (n : SlotIx) (c : Countdown) : (s.setCountdown n c).results = s.results := rfl
@[simp] theorem setCountdown_fifo (n : SlotIx) (c : Countdown) : (s.setCountdown n c).fifo = s.fifo := rfl
@[simp] theorem setCountdown_watch (n : SlotIx) (c : Countdown) : (s.setCountdown n c).watch = s.watch := rfl
@[simp] theorem setCountdown_tripLog (n : SlotIx) (c : Countdown) : (s.setCountdown n c).tripLog = s.tripLog := rfl
@[simp] theorem setCountdown_switches (n : SlotIx) (c : Countdown) : (s.setCountdown n c).switches = s.switches := rfl
@[simp] theorem setCountdown_pwm (n : SlotIx) (c : Countdown) : (s.setCountdown n c).pwm = s.pwm := rfl
@[simp] theorem setCountdown_events (n : SlotIx) (c : Countdown) : (s.setCountdown n c).events = s.events := rfl
@[simp] theorem setCountdown_mode (n : SlotIx) (c : Countdown) : (s.setCountdown n c).mode = s.mode := rfl
@[simp] theorem setCountdown_port (n : SlotIx) (c : Countdown) : (s.setCountdown n c).port = s.port := rfl
@[simp] theorem setCountdown_choices (n : SlotIx) (c : Countdown) : (s.setCountdown n c).choices = s.choices := rfl
@[simp] theorem setCountdown_pending (n : SlotIx) (c : Countdown) : (s.setCountdown n c).pending = s.pending := rfl

/-! ### setDecim -/

@[simp] theorem setDecim_slots (n : SlotIx) (k : Nat) : (s.setDecim n k).slots = s.slots := rfl
@[simp] theorem setDecim_staging (n : SlotIx) (k : Nat) : (s.setDecim n k).staging = s.staging := rfl
@[simp] theorem setDecim_triggers (n : SlotIx) (k : Nat) : (s.setDecim n k).triggers = { s.triggers with decims := s.triggers.decims.set n k } := rfl
@[simp] theorem setDecim_queue (n : SlotIx) (k : Nat) : (s.setDecim n k).queue = s.queue := rfl
@[simp] theorem setDecim_engine (n : SlotIx) (k : Nat) : (s.setDecim n k).engine = s.engine := rfl
@[simp] theorem setDecim_results (n : SlotIx) (k : Nat) : (s.setDecim n k).results = s.results := rfl
@[simp] theorem setDecim_fifo (n : SlotIx) (k : Nat) : (s.setDecim n k).fifo = s.fifo := rfl
@[simp] theorem setDecim_watch (n : SlotIx) (k : Nat) : (s.setDecim n k).watch = s.watch := rfl
@[simp] theorem setDecim_tripLog (n : SlotIx) (k : Nat) : (s.setDecim n k).tripLog = s.tripLog := rfl
@[simp] theorem setDecim_switches (n : SlotIx) (k : Nat) : (s.setDecim n k).switches = s.switches := rfl
@[simp] theorem setDecim_pwm (n : SlotIx) (k : Nat) : (s.setDecim n k).pwm = s.pwm := rfl
@[simp] theorem setDecim_events (n : SlotIx) (k : Nat) : (s.setDecim n k).events = s.events := rfl
@[simp] theorem setDecim_mode (n : SlotIx) (k : Nat) : (s.setDecim n k).mode = s.mode := rfl
@[simp] theorem setDecim_port (n : SlotIx) (k : Nat) : (s.setDecim n k).port = s.port := rfl
@[simp] theorem setDecim_choices (n : SlotIx) (k : Nat) : (s.setDecim n k).choices = s.choices := rfl
@[simp] theorem setDecim_pending (n : SlotIx) (k : Nat) : (s.setDecim n k).pending = s.pending := rfl

/-! ### setResult -/

@[simp] theorem setResult_slots (n : SlotIx) (r : ResultRecord) : (s.setResult n r).slots = s.slots := rfl
@[simp] theorem setResult_staging (n : SlotIx) (r : ResultRecord) : (s.setResult n r).staging = s.staging := rfl
@[simp] theorem setResult_triggers (n : SlotIx) (r : ResultRecord) : (s.setResult n r).triggers = s.triggers := rfl
@[simp] theorem setResult_queue (n : SlotIx) (r : ResultRecord) : (s.setResult n r).queue = s.queue := rfl
@[simp] theorem setResult_engine (n : SlotIx) (r : ResultRecord) : (s.setResult n r).engine = s.engine := rfl
@[simp] theorem setResult_results (n : SlotIx) (r : ResultRecord) : (s.setResult n r).results = { s.results with records := s.results.records.set n r } := rfl
@[simp] theorem setResult_fifo (n : SlotIx) (r : ResultRecord) : (s.setResult n r).fifo = s.fifo := rfl
@[simp] theorem setResult_watch (n : SlotIx) (r : ResultRecord) : (s.setResult n r).watch = s.watch := rfl
@[simp] theorem setResult_tripLog (n : SlotIx) (r : ResultRecord) : (s.setResult n r).tripLog = s.tripLog := rfl
@[simp] theorem setResult_switches (n : SlotIx) (r : ResultRecord) : (s.setResult n r).switches = s.switches := rfl
@[simp] theorem setResult_pwm (n : SlotIx) (r : ResultRecord) : (s.setResult n r).pwm = s.pwm := rfl
@[simp] theorem setResult_events (n : SlotIx) (r : ResultRecord) : (s.setResult n r).events = s.events := rfl
@[simp] theorem setResult_mode (n : SlotIx) (r : ResultRecord) : (s.setResult n r).mode = s.mode := rfl
@[simp] theorem setResult_port (n : SlotIx) (r : ResultRecord) : (s.setResult n r).port = s.port := rfl
@[simp] theorem setResult_choices (n : SlotIx) (r : ResultRecord) : (s.setResult n r).choices = s.choices := rfl
@[simp] theorem setResult_pending (n : SlotIx) (r : ResultRecord) : (s.setResult n r).pending = s.pending := rfl

/-! ### setSwitch -/

@[simp] theorem setSwitch_slots (n : SwIx) (w : Switch) : (s.setSwitch n w).slots = s.slots := rfl
@[simp] theorem setSwitch_staging (n : SwIx) (w : Switch) : (s.setSwitch n w).staging = s.staging := rfl
@[simp] theorem setSwitch_triggers (n : SwIx) (w : Switch) : (s.setSwitch n w).triggers = s.triggers := rfl
@[simp] theorem setSwitch_queue (n : SwIx) (w : Switch) : (s.setSwitch n w).queue = s.queue := rfl
@[simp] theorem setSwitch_engine (n : SwIx) (w : Switch) : (s.setSwitch n w).engine = s.engine := rfl
@[simp] theorem setSwitch_results (n : SwIx) (w : Switch) : (s.setSwitch n w).results = s.results := rfl
@[simp] theorem setSwitch_fifo (n : SwIx) (w : Switch) : (s.setSwitch n w).fifo = s.fifo := rfl
@[simp] theorem setSwitch_watch (n : SwIx) (w : Switch) : (s.setSwitch n w).watch = s.watch := rfl
@[simp] theorem setSwitch_tripLog (n : SwIx) (w : Switch) : (s.setSwitch n w).tripLog = s.tripLog := rfl
@[simp] theorem setSwitch_switches (n : SwIx) (w : Switch) : (s.setSwitch n w).switches = s.switches.set n w := rfl
@[simp] theorem setSwitch_pwm (n : SwIx) (w : Switch) : (s.setSwitch n w).pwm = s.pwm := rfl
@[simp] theorem setSwitch_events (n : SwIx) (w : Switch) : (s.setSwitch n w).events = s.events := rfl
@[simp] theorem setSwitch_mode (n : SwIx) (w : Switch) : (s.setSwitch n w).mode = s.mode := rfl
@[simp] theorem setSwitch_port (n : SwIx) (w : Switch) : (s.setSwitch n w).port = s.port := rfl
@[simp] theorem setSwitch_choices (n : SwIx) (w : Switch) : (s.setSwitch n w).choices = s.choices := rfl
@[simp] theorem setSwitch_pending (n : SwIx) (w : Switch) : (s.setSwitch n w).pending = s.pending := rfl

/-! ### setChannel -/

@[simp] theorem setChannel_slots (c : ChIx) (x : Channel) : (s.setChannel c x).slots = s.slots := rfl
@[simp] theorem setChannel_staging (c : ChIx) (x : Channel) : (s.setChannel c x).staging = s.staging := rfl
@[simp] theorem setChannel_triggers (c : ChIx) (x : Channel) : (s.setChannel c x).triggers = s.triggers := rfl
@[simp] theorem setChannel_queue (c : ChIx) (x : Channel) : (s.setChannel c x).queue = s.queue := rfl
@[simp] theorem setChannel_engine (c : ChIx) (x : Channel) : (s.setChannel c x).engine = s.engine := rfl
@[simp] theorem setChannel_results (c : ChIx) (x : Channel) : (s.setChannel c x).results = s.results := rfl
@[simp] theorem setChannel_fifo (c : ChIx) (x : Channel) : (s.setChannel c x).fifo = s.fifo := rfl
@[simp] theorem setChannel_watch (c : ChIx) (x : Channel) : (s.setChannel c x).watch = s.watch := rfl
@[simp] theorem setChannel_tripLog (c : ChIx) (x : Channel) : (s.setChannel c x).tripLog = s.tripLog := rfl
@[simp] theorem setChannel_switches (c : ChIx) (x : Channel) : (s.setChannel c x).switches = s.switches := rfl
@[simp] theorem setChannel_pwm (c : ChIx) (x : Channel) : (s.setChannel c x).pwm = s.pwm.set c x := rfl
@[simp] theorem setChannel_events (c : ChIx) (x : Channel) : (s.setChannel c x).events = s.events := rfl
@[simp] theorem setChannel_mode (c : ChIx) (x : Channel) : (s.setChannel c x).mode = s.mode := rfl
@[simp] theorem setChannel_port (c : ChIx) (x : Channel) : (s.setChannel c x).port = s.port := rfl
@[simp] theorem setChannel_choices (c : ChIx) (x : Channel) : (s.setChannel c x).choices = s.choices := rfl
@[simp] theorem setChannel_pending (c : ChIx) (x : Channel) : (s.setChannel c x).pending = s.pending := rfl

/-! ### setEngine -/

@[simp] theorem setEngine_slots (e : EngineState) : (s.setEngine e).slots = s.slots := rfl
@[simp] theorem setEngine_staging (e : EngineState) : (s.setEngine e).staging = s.staging := rfl
@[simp] theorem setEngine_triggers (e : EngineState) : (s.setEngine e).triggers = s.triggers := rfl
@[simp] theorem setEngine_queue (e : EngineState) : (s.setEngine e).queue = s.queue := rfl
@[simp] theorem setEngine_engine (e : EngineState) : (s.setEngine e).engine = { s.engine with state := e } := rfl
@[simp] theorem setEngine_results (e : EngineState) : (s.setEngine e).results = s.results := rfl
@[simp] theorem setEngine_fifo (e : EngineState) : (s.setEngine e).fifo = s.fifo := rfl
@[simp] theorem setEngine_watch (e : EngineState) : (s.setEngine e).watch = s.watch := rfl
@[simp] theorem setEngine_tripLog (e : EngineState) : (s.setEngine e).tripLog = s.tripLog := rfl
@[simp] theorem setEngine_switches (e : EngineState) : (s.setEngine e).switches = s.switches := rfl
@[simp] theorem setEngine_pwm (e : EngineState) : (s.setEngine e).pwm = s.pwm := rfl
@[simp] theorem setEngine_events (e : EngineState) : (s.setEngine e).events = s.events := rfl
@[simp] theorem setEngine_mode (e : EngineState) : (s.setEngine e).mode = s.mode := rfl
@[simp] theorem setEngine_port (e : EngineState) : (s.setEngine e).port = s.port := rfl
@[simp] theorem setEngine_choices (e : EngineState) : (s.setEngine e).choices = s.choices := rfl
@[simp] theorem setEngine_pending (e : EngineState) : (s.setEngine e).pending = s.pending := rfl

/-! ### setSublists -/

@[simp] theorem setSublists_slots (u l : List Entry) : (s.setSublists u l).slots = s.slots := rfl
@[simp] theorem setSublists_staging (u l : List Entry) : (s.setSublists u l).staging = s.staging := rfl
@[simp] theorem setSublists_triggers (u l : List Entry) : (s.setSublists u l).triggers = s.triggers := rfl
@[simp] theorem setSublists_queue (u l : List Entry) : (s.setSublists u l).queue = { s.queue with urgent := u, normal := l } := rfl
@[simp] theorem setSublists_engine (u l : List Entry) : (s.setSublists u l).engine = s.engine := rfl
@[simp] theorem setSublists_results (u l : List Entry) : (s.setSublists u l).results = s.results := rfl
@[simp] theorem setSublists_fifo (u l : List Entry) : (s.setSublists u l).fifo = s.fifo := rfl
@[simp] theorem setSublists_watch (u l : List Entry) : (s.setSublists u l).watch = s.watch := rfl
@[simp] theorem setSublists_tripLog (u l : List Entry) : (s.setSublists u l).tripLog = s.tripLog := rfl
@[simp] theorem setSublists_switches (u l : List Entry) : (s.setSublists u l).switches = s.switches := rfl
@[simp] theorem setSublists_pwm (u l : List Entry) : (s.setSublists u l).pwm = s.pwm := rfl
@[simp] theorem setSublists_events (u l : List Entry) : (s.setSublists u l).events = s.events := rfl
@[simp] theorem setSublists_mode (u l : List Entry) : (s.setSublists u l).mode = s.mode := rfl
@[simp] theorem setSublists_port (u l : List Entry) : (s.setSublists u l).port = s.port := rfl
@[simp] theorem setSublists_choices (u l : List Entry) : (s.setSublists u l).choices = s.choices := rfl
@[simp] theorem setSublists_pending (u l : List Entry) : (s.setSublists u l).pending = s.pending := rfl

/-! ### setQueue -/

@[simp] theorem setQueue_slots (q : RequestQueue) : (s.setQueue q).slots = s.slots := rfl
@[simp] theorem setQueue_staging (q : RequestQueue) : (s.setQueue q).staging = s.staging := rfl
@[simp] theorem setQueue_triggers (q : RequestQueue) : (s.setQueue q).triggers = s.triggers := rfl
@[simp] theorem setQueue_queue (q : RequestQueue) : (s.setQueue q).queue = q := rfl
@[simp] theorem setQueue_engine (q : RequestQueue) : (s.setQueue q).engine = s.engine := rfl
@[simp] theorem setQueue_results (q : RequestQueue) : (s.setQueue q).results = s.results := rfl
@[simp] theorem setQueue_fifo (q : RequestQueue) : (s.setQueue q).fifo = s.fifo := rfl
@[simp] theorem setQueue_watch (q : RequestQueue) : (s.setQueue q).watch = s.watch := rfl
@[simp] theorem setQueue_tripLog (q : RequestQueue) : (s.setQueue q).tripLog = s.tripLog := rfl
@[simp] theorem setQueue_switches (q : RequestQueue) : (s.setQueue q).switches = s.switches := rfl
@[simp] theorem setQueue_pwm (q : RequestQueue) : (s.setQueue q).pwm = s.pwm := rfl
@[simp] theorem setQueue_events (q : RequestQueue) : (s.setQueue q).events = s.events := rfl
@[simp] theorem setQueue_mode (q : RequestQueue) : (s.setQueue q).mode = s.mode := rfl
@[simp] theorem setQueue_port (q : RequestQueue) : (s.setQueue q).port = s.port := rfl
@[simp] theorem setQueue_choices (q : RequestQueue) : (s.setQueue q).choices = s.choices := rfl
@[simp] theorem setQueue_pending (q : RequestQueue) : (s.setQueue q).pending = s.pending := rfl

/-! ### setTriggers -/

@[simp] theorem setTriggers_slots (t : TriggerSources) : (s.setTriggers t).slots = s.slots := rfl
@[simp] theorem setTriggers_staging (t : TriggerSources) : (s.setTriggers t).staging = s.staging := rfl
@[simp] theorem setTriggers_triggers (t : TriggerSources) : (s.setTriggers t).triggers = t := rfl
@[simp] theorem setTriggers_queue (t : TriggerSources) : (s.setTriggers t).queue = s.queue := rfl
@[simp] theorem setTriggers_engine (t : TriggerSources) : (s.setTriggers t).engine = s.engine := rfl
@[simp] theorem setTriggers_results (t : TriggerSources) : (s.setTriggers t).results = s.results := rfl
@[simp] theorem setTriggers_fifo (t : TriggerSources) : (s.setTriggers t).fifo = s.fifo := rfl
@[simp] theorem setTriggers_watch (t : TriggerSources) : (s.setTriggers t).watch = s.watch := rfl
@[simp] theorem setTriggers_tripLog (t : TriggerSources) : (s.setTriggers t).tripLog = s.tripLog := rfl
@[simp] theorem setTriggers_switches (t : TriggerSources) : (s.setTriggers t).switches = s.switches := rfl
@[simp] theorem setTriggers_pwm (t : TriggerSources) : (s.setTriggers t).pwm = s.pwm := rfl
@[simp] theorem setTriggers_events (t : TriggerSources) : (s.setTriggers t).events = s.events := rfl
@[simp] theorem setTriggers_mode (t : TriggerSources) : (s.setTriggers t).mode = s.mode := rfl
@[simp] theorem setTriggers_port (t : TriggerSources) : (s.setTriggers t).port = s.port := rfl
@[simp] theorem setTriggers_choices (t : TriggerSources) : (s.setTriggers t).choices = s.choices := rfl
@[simp] theorem setTriggers_pending (t : TriggerSources) : (s.setTriggers t).pending = s.pending := rfl

/-! ### setStaging -/

@[simp] theorem setStaging_slots (g : Staging) : (s.setStaging g).slots = s.slots := rfl
@[simp] theorem setStaging_staging (g : Staging) : (s.setStaging g).staging = g := rfl
@[simp] theorem setStaging_triggers (g : Staging) : (s.setStaging g).triggers = s.triggers := rfl
@[simp] theorem setStaging_queue (g : Staging) : (s.setStaging g).queue = s.queue := rfl
@[simp] theorem setStaging_engine (g : Staging) : (s.setStaging g).engine = s.engine := rfl
@[simp] theorem setStaging_results (g : Staging) : (s.setStaging g).results = s.results := rfl
@[simp] theorem setStaging_fifo (g : Staging) : (s.setStaging g).fifo = s.fifo := rfl
@[simp] theorem setStaging_watch (g : Staging) : (s.setStaging g).watch = s.watch := rfl
@[simp] theorem setStaging_tripLog (g : Staging) : (s.setStaging g).tripLog = s.tripLog := rfl
@[simp] theorem setStaging_switches (g : Staging) : (s.setStaging g).switches = s.switches := rfl
@[simp] theorem setStaging_pwm (g : Staging) : (s.setStaging g).pwm = s.pwm := rfl
@[simp] theorem setStaging_events (g : Staging) : (s.setStaging g).events = s.events := rfl
@[simp] theorem setStaging_mode (g : Staging) : (s.setStaging g).mode = s.mode := rfl
@[simp] theorem setStaging_port (g : Staging) : (s.setStaging g).port = s.port := rfl
@[simp] theorem setStaging_choices (g : Staging) : (s.setStaging g).choices = s.choices := rfl
@[simp] theorem setStaging_pending (g : Staging) : (s.setStaging g).pending = s.pending := rfl

/-! ### setFifo -/

@[simp] theorem setFifo_slots (f : CaptureFifo) : (s.setFifo f).slots = s.slots := rfl
@[simp] theorem setFifo_staging (f : CaptureFifo) : (s.setFifo f).staging = s.staging := rfl
@[simp] theorem setFifo_triggers (f : CaptureFifo) : (s.setFifo f).triggers = s.triggers := rfl
@[simp] theorem setFifo_queue (f : CaptureFifo) : (s.setFifo f).queue = s.queue := rfl
@[simp] theorem setFifo_engine (f : CaptureFifo) : (s.setFifo f).engine = s.engine := rfl
@[simp] theorem setFifo_results (f : CaptureFifo) : (s.setFifo f).results = s.results := rfl
@[simp] theorem setFifo_fifo (f : CaptureFifo) : (s.setFifo f).fifo = f := rfl
@[simp] theorem setFifo_watch (f : CaptureFifo) : (s.setFifo f).watch = s.watch := rfl
@[simp] theorem setFifo_tripLog (f : CaptureFifo) : (s.setFifo f).tripLog = s.tripLog := rfl
@[simp] theorem setFifo_switches (f : CaptureFifo) : (s.setFifo f).switches = s.switches := rfl
@[simp] theorem setFifo_pwm (f : CaptureFifo) : (s.setFifo f).pwm = s.pwm := rfl
@[simp] theorem setFifo_events (f : CaptureFifo) : (s.setFifo f).events = s.events := rfl
@[simp] theorem setFifo_mode (f : CaptureFifo) : (s.setFifo f).mode = s.mode := rfl
@[simp] theorem setFifo_port (f : CaptureFifo) : (s.setFifo f).port = s.port := rfl
@[simp] theorem setFifo_choices (f : CaptureFifo) : (s.setFifo f).choices = s.choices := rfl
@[simp] theorem setFifo_pending (f : CaptureFifo) : (s.setFifo f).pending = s.pending := rfl

/-! ### setTripLog -/

@[simp] theorem setTripLog_slots (l : TripLog) : (s.setTripLog l).slots = s.slots := rfl
@[simp] theorem setTripLog_staging (l : TripLog) : (s.setTripLog l).staging = s.staging := rfl
@[simp] theorem setTripLog_triggers (l : TripLog) : (s.setTripLog l).triggers = s.triggers := rfl
@[simp] theorem setTripLog_queue (l : TripLog) : (s.setTripLog l).queue = s.queue := rfl
@[simp] theorem setTripLog_engine (l : TripLog) : (s.setTripLog l).engine = s.engine := rfl
@[simp] theorem setTripLog_results (l : TripLog) : (s.setTripLog l).results = s.results := rfl
@[simp] theorem setTripLog_fifo (l : TripLog) : (s.setTripLog l).fifo = s.fifo := rfl
@[simp] theorem setTripLog_watch (l : TripLog) : (s.setTripLog l).watch = s.watch := rfl
@[simp] theorem setTripLog_tripLog (l : TripLog) : (s.setTripLog l).tripLog = l := rfl
@[simp] theorem setTripLog_switches (l : TripLog) : (s.setTripLog l).switches = s.switches := rfl
@[simp] theorem setTripLog_pwm (l : TripLog) : (s.setTripLog l).pwm = s.pwm := rfl
@[simp] theorem setTripLog_events (l : TripLog) : (s.setTripLog l).events = s.events := rfl
@[simp] theorem setTripLog_mode (l : TripLog) : (s.setTripLog l).mode = s.mode := rfl
@[simp] theorem setTripLog_port (l : TripLog) : (s.setTripLog l).port = s.port := rfl
@[simp] theorem setTripLog_choices (l : TripLog) : (s.setTripLog l).choices = s.choices := rfl
@[simp] theorem setTripLog_pending (l : TripLog) : (s.setTripLog l).pending = s.pending := rfl

/-! ### setEvents -/

@[simp] theorem setEvents_slots (e : EventUnit) : (s.setEvents e).slots = s.slots := rfl
@[simp] theorem setEvents_staging (e : EventUnit) : (s.setEvents e).staging = s.staging := rfl
@[simp] theorem setEvents_triggers (e : EventUnit) : (s.setEvents e).triggers = s.triggers := rfl
@[simp] theorem setEvents_queue (e : EventUnit) : (s.setEvents e).queue = s.queue := rfl
@[simp] theorem setEvents_engine (e : EventUnit) : (s.setEvents e).engine = s.engine := rfl
@[simp] theorem setEvents_results (e : EventUnit) : (s.setEvents e).results = s.results := rfl
@[simp] theorem setEvents_fifo (e : EventUnit) : (s.setEvents e).fifo = s.fifo := rfl
@[simp] theorem setEvents_watch (e : EventUnit) : (s.setEvents e).watch = s.watch := rfl
@[simp] theorem setEvents_tripLog (e : EventUnit) : (s.setEvents e).tripLog = s.tripLog := rfl
@[simp] theorem setEvents_switches (e : EventUnit) : (s.setEvents e).switches = s.switches := rfl
@[simp] theorem setEvents_pwm (e : EventUnit) : (s.setEvents e).pwm = s.pwm := rfl
@[simp] theorem setEvents_events (e : EventUnit) : (s.setEvents e).events = e := rfl
@[simp] theorem setEvents_mode (e : EventUnit) : (s.setEvents e).mode = s.mode := rfl
@[simp] theorem setEvents_port (e : EventUnit) : (s.setEvents e).port = s.port := rfl
@[simp] theorem setEvents_choices (e : EventUnit) : (s.setEvents e).choices = s.choices := rfl
@[simp] theorem setEvents_pending (e : EventUnit) : (s.setEvents e).pending = s.pending := rfl

/-! ### setPort -/

@[simp] theorem setPort_slots (p : HostPort) : (s.setPort p).slots = s.slots := rfl
@[simp] theorem setPort_staging (p : HostPort) : (s.setPort p).staging = s.staging := rfl
@[simp] theorem setPort_triggers (p : HostPort) : (s.setPort p).triggers = s.triggers := rfl
@[simp] theorem setPort_queue (p : HostPort) : (s.setPort p).queue = s.queue := rfl
@[simp] theorem setPort_engine (p : HostPort) : (s.setPort p).engine = s.engine := rfl
@[simp] theorem setPort_results (p : HostPort) : (s.setPort p).results = s.results := rfl
@[simp] theorem setPort_fifo (p : HostPort) : (s.setPort p).fifo = s.fifo := rfl
@[simp] theorem setPort_watch (p : HostPort) : (s.setPort p).watch = s.watch := rfl
@[simp] theorem setPort_tripLog (p : HostPort) : (s.setPort p).tripLog = s.tripLog := rfl
@[simp] theorem setPort_switches (p : HostPort) : (s.setPort p).switches = s.switches := rfl
@[simp] theorem setPort_pwm (p : HostPort) : (s.setPort p).pwm = s.pwm := rfl
@[simp] theorem setPort_events (p : HostPort) : (s.setPort p).events = s.events := rfl
@[simp] theorem setPort_mode (p : HostPort) : (s.setPort p).mode = s.mode := rfl
@[simp] theorem setPort_port (p : HostPort) : (s.setPort p).port = p := rfl
@[simp] theorem setPort_choices (p : HostPort) : (s.setPort p).choices = s.choices := rfl
@[simp] theorem setPort_pending (p : HostPort) : (s.setPort p).pending = s.pending := rfl

/-! ### setMode -/

@[simp] theorem setMode_slots (m : ModeControl) : (s.setMode m).slots = s.slots := rfl
@[simp] theorem setMode_staging (m : ModeControl) : (s.setMode m).staging = s.staging := rfl
@[simp] theorem setMode_triggers (m : ModeControl) : (s.setMode m).triggers = s.triggers := rfl
@[simp] theorem setMode_queue (m : ModeControl) : (s.setMode m).queue = s.queue := rfl
@[simp] theorem setMode_engine (m : ModeControl) : (s.setMode m).engine = s.engine := rfl
@[simp] theorem setMode_results (m : ModeControl) : (s.setMode m).results = s.results := rfl
@[simp] theorem setMode_fifo (m : ModeControl) : (s.setMode m).fifo = s.fifo := rfl
@[simp] theorem setMode_watch (m : ModeControl) : (s.setMode m).watch = s.watch := rfl
@[simp] theorem setMode_tripLog (m : ModeControl) : (s.setMode m).tripLog = s.tripLog := rfl
@[simp] theorem setMode_switches (m : ModeControl) : (s.setMode m).switches = s.switches := rfl
@[simp] theorem setMode_pwm (m : ModeControl) : (s.setMode m).pwm = s.pwm := rfl
@[simp] theorem setMode_events (m : ModeControl) : (s.setMode m).events = s.events := rfl
@[simp] theorem setMode_mode (m : ModeControl) : (s.setMode m).mode = m := rfl
@[simp] theorem setMode_port (m : ModeControl) : (s.setMode m).port = s.port := rfl
@[simp] theorem setMode_choices (m : ModeControl) : (s.setMode m).choices = s.choices := rfl
@[simp] theorem setMode_pending (m : ModeControl) : (s.setMode m).pending = s.pending := rfl

/-! ### useChoice -/

@[simp] theorem useChoice_slots : (s.useChoice).slots = s.slots := rfl
@[simp] theorem useChoice_staging : (s.useChoice).staging = s.staging := rfl
@[simp] theorem useChoice_triggers : (s.useChoice).triggers = s.triggers := rfl
@[simp] theorem useChoice_queue : (s.useChoice).queue = s.queue := rfl
@[simp] theorem useChoice_engine : (s.useChoice).engine = s.engine := rfl
@[simp] theorem useChoice_results : (s.useChoice).results = s.results := rfl
@[simp] theorem useChoice_fifo : (s.useChoice).fifo = s.fifo := rfl
@[simp] theorem useChoice_watch : (s.useChoice).watch = s.watch := rfl
@[simp] theorem useChoice_tripLog : (s.useChoice).tripLog = s.tripLog := rfl
@[simp] theorem useChoice_switches : (s.useChoice).switches = s.switches := rfl
@[simp] theorem useChoice_pwm : (s.useChoice).pwm = s.pwm := rfl
@[simp] theorem useChoice_events : (s.useChoice).events = s.events := rfl
@[simp] theorem useChoice_mode : (s.useChoice).mode = s.mode := rfl
@[simp] theorem useChoice_port : (s.useChoice).port = s.port := rfl
@[simp] theorem useChoice_choices : (s.useChoice).choices = s.choices + 1 := rfl
@[simp] theorem useChoice_pending : (s.useChoice).pending = s.pending := rfl

/-! ### withPending -/

@[simp] theorem withPending_slots (cs : List Instr) : (s.withPending cs).slots = s.slots := rfl
@[simp] theorem withPending_staging (cs : List Instr) : (s.withPending cs).staging = s.staging := rfl
@[simp] theorem withPending_triggers (cs : List Instr) : (s.withPending cs).triggers = s.triggers := rfl
@[simp] theorem withPending_queue (cs : List Instr) : (s.withPending cs).queue = s.queue := rfl
@[simp] theorem withPending_engine (cs : List Instr) : (s.withPending cs).engine = s.engine := rfl
@[simp] theorem withPending_results (cs : List Instr) : (s.withPending cs).results = s.results := rfl
@[simp] theorem withPending_fifo (cs : List Instr) : (s.withPending cs).fifo = s.fifo := rfl
@[simp] theorem withPending_watch (cs : List Instr) : (s.withPending cs).watch = s.watch := rfl
@[simp] theorem withPending_tripLog (cs : List Instr) : (s.withPending cs).tripLog = s.tripLog := rfl
@[simp] theorem withPending_switches (cs : List Instr) : (s.withPending cs).switches = s.switches := rfl
@[simp] theorem withPending_pwm (cs : List Instr) : (s.withPending cs).pwm = s.pwm := rfl
@[simp] theorem withPending_events (cs : List Instr) : (s.withPending cs).events = s.events := rfl
@[simp] theorem withPending_mode (cs : List Instr) : (s.withPending cs).mode = s.mode := rfl
@[simp] theorem withPending_port (cs : List Instr) : (s.withPending cs).port = s.port := rfl
@[simp] theorem withPending_choices (cs : List Instr) : (s.withPending cs).choices = s.choices := rfl
@[simp] theorem withPending_pending (cs : List Instr) : (s.withPending cs).pending = cs := rfl

/-! ### Row reads after row updates -/

theorem record_setRecord (n m : SlotIx) (x : SlotRecord) : (s.setRecord n x).record m = if m = n then x else s.record m :=
  get_set ..

theorem slotRt_setSlotRt (n m : SlotIx) (x : SlotRuntime) : (s.setSlotRt n x).slotRt m = if m = n then x else s.slotRt m :=
  get_set ..

theorem rule_setRule (n m : RuleIx) (x : WatchRecord) : (s.setRule n x).rule m = if m = n then x else s.rule m :=
  get_set ..

theorem ruleRt_setRuleRt (n m : RuleIx) (x : RuleRuntime) : (s.setRuleRt n x).ruleRt m = if m = n then x else s.ruleRt m :=
  get_set ..

theorem countdown_setCountdown (n m : SlotIx) (x : Countdown) : (s.setCountdown n x).countdown m = if m = n then x else s.countdown m :=
  get_set ..

theorem decim_setDecim (n m : SlotIx) (x : Nat) : (s.setDecim n x).decim m = if m = n then x else s.decim m :=
  get_set ..

theorem result_setResult (n m : SlotIx) (x : ResultRecord) : (s.setResult n x).result m = if m = n then x else s.result m :=
  get_set ..

theorem switch_setSwitch (n m : SwIx) (x : Switch) : (s.setSwitch n x).switch m = if m = n then x else s.switch m :=
  get_set ..

theorem channel_setChannel (n m : ChIx) (x : Channel) : (s.setChannel n x).channel m = if m = n then x else s.channel m :=
  get_set ..

end Sys2Proof.Machine.State
end

