-- ==== Sys2Proof/Laws/Access.lean ====
section
/-! SUPPORT. What every host access does around its own effect: results, responses, and the rows as accesses. -/

namespace Sys2Proof.Machine

open Sys2Proof.Safety

/-! ## Occurrences and FAULT -/

theorem EventUnit.occur_fault (e : EventUnit) (k : EventKind) : (e.occur k).fault = e.fault := by
  unfold EventUnit.occur EventUnit.startPulse
  simp only
  split
  · split <;> rfl
  · rfl

namespace State

variable (s : State)

@[simp] theorem occur_fault (k) : (s.occur k).events.fault = s.events.fault := EventUnit.occur_fault ..

@[simp] theorem occurIf_fault (c k) : (s.occurIf c k).events.fault = s.events.fault := by
  unfold occurIf
  split <;> simp

@[simp] theorem faultUpdate_fault : s.faultUpdate.events.fault = s.faultCondition := rfl

@[simp] theorem endCommand_fault (code r) : (s.endCommand code r).events.fault = s.events.fault := by
  simp [endCommand]

end State

/-- What the host port does around an effect: it can latch an event and write its own registers, nothing else. -/
structure Quiet (s t : State) : Prop where
  within : Within [.events, .port, .pending] s t
  fault : t.events.fault = s.events.fault

namespace Quiet

variable {s t u : State}

theorem refl : Quiet s s := ⟨.refl, rfl⟩

theorem trans (h : Quiet s t) (k : Quiet t u) : Quiet s u := ⟨h.within.trans k.within, k.fault.trans h.fault⟩

theorem occur (s : State) (k) : Quiet s (s.occur k) := ⟨(s.occur_within k).mono, s.occur_fault k⟩

theorem occurIf (s : State) (c k) : Quiet s (s.occurIf c k) := ⟨(s.occurIf_within c k).mono, s.occurIf_fault c k⟩

theorem setPort (s : State) (p) : Quiet s (s.setPort p) := ⟨(s.setPort_within p).mono, rfl⟩

theorem respond (s : State) (addr d) : Quiet s (s.respond addr d) := setPort ..

theorem rejectFrame (s : State) : Quiet s s.rejectFrame := (occur ..).trans (setPort ..)

theorem endCommand (s : State) (code r) : Quiet s (s.endCommand code r) := (occurIf ..).trans (setPort ..)

theorem withPending (s : State) (cs) : Quiet s (s.withPending cs) :=
  ⟨⟨fun b hb => by cases b <;> first | rfl | exact (hb (by decide)).elim⟩, rfl⟩

end Quiet

/-! ## Commands -/

/-- The state a command's effect leaves, however it ends. -/
def CommandEnd.state : CommandEnd → State
  | .result s _ => s
  | .reset s => s

/-- Command `c` with its argument, its result `r` and the response, after its effect has left `mid` (R188, R193). -/
theorem State.takeCommand_result {s mid : State} {code arg : Byte} {effect : State → CommandEnd} {r : ResultCode}
    (h : effect s = .result mid r) :
    s.takeCommand code arg effect = (mid.endCommand code r).respond 0x01 (code ++ arg) := by
  simp only [State.takeCommand, h]

theorem State.takeCommand_reset {s mid : State} {code arg : Byte} {effect : State → CommandEnd}
    (h : effect s = .reset mid) : s.takeCommand code arg effect = mid := by
  simp only [State.takeCommand, h]

/-- Taking a command adds nothing but its result and response to its effect. -/
theorem State.takeCommand_quiet (s : State) (code arg : Byte) (effect : State → CommandEnd) :
    Quiet (effect s).state (s.takeCommand code arg effect) := by
  unfold State.takeCommand
  cases effect s with
  | result t r => exact (Quiet.endCommand ..).trans (Quiet.respond ..)
  | reset t => exact .refl

theorem State.hostAccess_ready {s : State} (h : s.port.inReset = false) (access : State → State) :
    s.hostAccess access = access s := by
  simp [State.hostAccess, h]

theorem State.hostAccess_reset {s : State} (h : s.port.inReset = true) (access : State → State) :
    s.hostAccess access = s := by
  simp [State.hostAccess, h]

theorem State.hostCommand_ready {s : State} (h : s.port.inReset = false) (c : Command) (arg : Byte)
    (effect : State → CommandEnd) : s.hostCommand c arg effect = s.takeCommand c.code arg effect :=
  State.hostAccess_ready h _

theorem State.hostWrite_ready {s : State} (h : s.port.inReset = false) (addr : Byte) (d : Word) (f : State → State) :
    s.hostWrite addr d f = (f s).respond addr d :=
  State.hostAccess_ready h _

theorem State.hostRead_ready {s : State} (h : s.port.inReset = false) (addr : Byte) (f : State → State)
    (v : State → Word) : s.hostRead addr f v = (f s).respond addr (v (f s)) :=
  State.hostAccess_ready h _

/-- A legal index reaches its row; another is BAD_INDEX (R192). -/
theorem withIndex_lt {bound : Nat} {arg : Byte} {s : State} {f : Fin bound → CommandEnd} (h : arg.toNat < bound) :
    withIndex bound arg s f = f ⟨arg.toNat, h⟩ := dif_pos h

theorem withIndex_ge {bound : Nat} {arg : Byte} {s : State} {f : Fin bound → CommandEnd} (h : bound ≤ arg.toNat) :
    withIndex bound arg s f = .result s .badIndex := dif_neg (by omega)

/-! ## Rows where no reset is in progress, as the statements speak of them -/

theorem State.endCommand_respond (t : State) (code arg : Byte) (r : ResultCode) :
    (t.endCommand code r).respond 0x01 (code ++ arg) = finished t code arg r := by
  unfold finished State.endCommand State.occurIf
  split <;> rfl

/-- A command row whose effect ends with result `r`. -/
theorem State.hostCommand_finished {s mid : State} {c : Command} {arg : Byte} {effect : State → CommandEnd} {r : ResultCode}
    (h : Ready s) (he : effect s = .result mid r) : s.hostCommand c arg effect = finished mid c.code arg r := by
  rw [State.hostCommand_ready h, State.takeCommand_result he, State.endCommand_respond]

/-- A write row. -/
theorem State.hostWrite_answered {s : State} (h : Ready s) (addr : Byte) (d : Word) (f : State → State) :
    s.hostWrite addr d f = answered (f s) addr d := State.hostWrite_ready h addr d f

/-- A read row. -/
theorem State.hostRead_answered {s : State} (h : Ready s) (addr : Byte) (f : State → State) (v : State → Word) :
    s.hostRead addr f v = answered (f s) addr (v (f s)) := State.hostRead_ready h addr f v

/-- An index argument in range names its row. -/
theorem withIndex_num {bound : Nat} (hb : bound ≤ 256) (n : Fin bound) {s : State} {f : Fin bound → CommandEnd} :
    withIndex bound (num 8 n) s f = f n := by
  have hn : (num 8 n).toNat = n := by simp [num]; omega
  rw [withIndex_lt (by omega)]
  exact congrArg f (Fin.ext hn)

/-! ## Codes -/

@[simp] theorem Command.ofCode_code (c : Command) : Command.ofCode c.code = some c := by cases c <;> rfl

theorem commandEffect_code (c : Command) (arg : Byte) : commandEffect c.code arg = c.effect arg := by
  simp [commandEffect]

end Sys2Proof.Machine
end

