-- ==== Sys2Proof/Laws/Bits.lean ====
section
/-! SUPPORT. Fields of words put together with `++` and taken apart with `field`. -/

namespace Sys2Proof

variable {m n w : Nat}

theorem bits_ext {x y : BitVec n} (h : ∀ i : Fin n, x.getLsbD i = y.getLsbD i) : x = y := by
  ext i hi
  exact h ⟨i, hi⟩

theorem getLsbD_field (d : BitVec w) (lo len i : Nat) : (field d lo len).getLsbD i = (decide (i < len) && d.getLsbD (lo + i)) :=
  BitVec.getLsbD_extractLsb' ..

/-- The upper part of `x ++ y`. -/
theorem field_hi (x : BitVec m) (y : BitVec n) : field (x ++ y) n m = x := by
  ext i hi
  rw [BitVec.getElem_extractLsb', BitVec.getLsbD_append, if_neg (by omega), Nat.add_sub_cancel_left,
    BitVec.getLsbD_eq_getElem]

/-- The lower part of `x ++ y`. -/
theorem field_lo (x : BitVec m) (y : BitVec n) : field (x ++ y) 0 n = y := by
  ext i hi
  rw [BitVec.getElem_extractLsb', BitVec.getLsbD_append, if_pos (by omega), Nat.zero_add, BitVec.getLsbD_eq_getElem]

/-- A field that stands in the upper part. -/
theorem field_up (x : BitVec m) (y : BitVec n) (k len : Nat) : field (x ++ y) (n + k) len = field x k len := by
  ext i hi
  rw [BitVec.getElem_extractLsb', BitVec.getElem_extractLsb', BitVec.getLsbD_append, if_neg (by omega)]
  congr 1
  omega

/-- A field that stands in the lower part. -/
theorem field_down (x : BitVec m) (y : BitVec n) (k len : Nat) (h : k + len ≤ n) :
    field (x ++ y) k len = field y k len := by
  ext i hi
  rw [BitVec.getElem_extractLsb', BitVec.getElem_extractLsb', BitVec.getLsbD_append, if_pos (by omega)]

/-- Two neighbouring fields are one. -/
theorem field_join (d : BitVec w) (k a b : Nat) : field d (k + b) a ++ field d k b = field d k (a + b) := by
  ext i hi
  rw [← BitVec.getLsbD_eq_getElem, ← BitVec.getLsbD_eq_getElem, BitVec.getLsbD_append, getLsbD_field, getLsbD_field,
    getLsbD_field]
  by_cases h : i < b
  · simp [h, hi]
  · rw [if_neg h, decide_eq_true (show i - b < a by omega), decide_eq_true hi, show k + b + (i - b) = k + i by omega]

/-- One bit as a field. -/
theorem bit_field (d : BitVec w) (k : Nat) : bit (d.getLsbD k) = field d k 1 := by
  ext i hi
  obtain rfl : i = 0 := by omega
  simp [bit, field]

/-- A whole word as a field. -/
theorem field_whole (d : BitVec w) : field d 0 w = d := by
  ext i hi
  simp [field]

/-- Fields put together are numbers put together. -/
theorem toNat_join (x : BitVec m) (y : BitVec n) : (x ++ y).toNat = 2 ^ n * x.toNat + y.toNat := by
  rw [BitVec.toNat_append, Nat.shiftLeft_eq, Nat.mul_comm, Nat.two_pow_add_eq_or_of_lt y.isLt]

theorem toNat_bit (b : Bool) : (bit b).toNat = b.toNat := by cases b <;> rfl

end Sys2Proof
end

