-- ==== Sys2Proof/Laws/Step.lean ====
section
/-! SUPPORT. Everything a step can do, said once: a property of states that survives the host port's own work, every
command, every register write and read, and every event of the blocks, survives every step. -/

namespace Sys2Proof.Machine

open Sys2Proof.Safety

/-- The parts a step is made of, each keeping `P`. -/
structure Kept (P : State → Prop) : Prop where
  quiet : ∀ {s t}, Quiet s t → P s → P t
  command : ∀ (c : Command) (arg : Byte) (s : State), c ≠ .softReset → P s → P (c.effect arg s).state
  write : ∀ (r : Reg) (d : Word) (f : State → State) (s : State), r.writeEffect d = some f → P s → P (f s)
  captureTime : ∀ s, P s → P s.captureTime
  captureEntry : ∀ s, P s → P s.captureEntry
  captureJob : ∀ s, P s → P s.captureJob
  captureFault : ∀ s, P s → P s.captureFault
  resetAll : ∀ (s : State) (c : ResetCause) (b : Bool), P s → P (s.resetAll c b)
  resetEnd : ∀ s, P s → P { s with triggers := { s.triggers with pinRef := s.triggers.pinLevel } }
  completion : ∀ (s : State) (k : Nat) (raw : Code12), P s → P (s.completion k raw)
  deadlineExpiry : ∀ s, P s → P s.deadlineExpiry
  tick : ∀ (s : State) (k : Nat), P s → P (s.tick k)
  periodicExpiry : ∀ (s : State) (n : SlotIx), P s → P (s.periodicExpiry n)
  edge : ∀ (s : State) (pin : TrgPin) (l : Level), P s → P (s.edge pin l)
  pointReached : ∀ (s : State) (c : ChIx), P s → P (s.pointReached c)
  periodEnd : ∀ (s : State) (c : ChIx), P s → P (s.periodEnd c)
  dutyEnd : ∀ (s : State) (c : ChIx), P s → P (s.dutyEnd c)
  softStartExpiry : ∀ (s : State) (n : SwIx), P s → P (s.setSwitch n (s.switch n).softStartExpiry)
  refillExpiry : ∀ (s : State) (n : SwIx), P s → P (s.setSwitch n (s.switch n).refillExpiry)
  retryExpiry : ∀ (s : State) (n : SwIx), P s → P (s.setSwitch n (s.switch n).retryExpiry)
  currentLimit : ∀ (s : State) (n : SwIx), P s → P (s.currentLimit n)

namespace Kept

variable {P : State → Prop} (K : Kept P) {s : State}
include K

theorem setPort (p : HostPort) (h : P s) : P (s.setPort p) := K.quiet (.setPort ..) h

theorem setEvents (e : EventUnit) (hf : e.fault = s.events.fault) (h : P s) : P (s.setEvents e) :=
  K.quiet ⟨(s.setEvents_within e).mono, hf⟩ h

theorem effect (c : Command) (arg : Byte) (h : P s) : P (c.effect arg s).state := by
  by_cases hc : c = .softReset
  · subst hc
    simp only [Command.effect, State.softReset]
    split
    · exact h
    · exact K.resetAll _ _ _ h
  · exact K.command c arg s hc h

theorem takeCommand (code arg : Byte) (effect : State → CommandEnd) (h : P (effect s).state) :
    P (s.takeCommand code arg effect) := K.quiet (s.takeCommand_quiet code arg effect) h

theorem commandEffect (code arg : Byte) (h : P s) : P (commandEffect code arg s).state := by
  unfold Machine.commandEffect
  cases Command.ofCode code with
  | some c => exact K.effect _ _ h
  | none => exact h

theorem takeWrite (addr : Byte) (d : Word) (f : State → State) (h : P (f s)) : P (s.takeWrite addr d f) :=
  K.quiet (.respond ..) h

theorem takeRead (addr : Byte) (f : State → State) (v : State → Word) (h : P (f s)) : P (s.takeRead addr f v) :=
  K.quiet (.respond ..) h

theorem readEffect (r : Reg) (h : P s) : P (r.readEffect s) := by
  cases r <;> first
    | exact h
    | exact K.captureTime _ h
    | exact K.captureEntry _ h
    | exact K.captureJob _ h
    | exact K.captureFault _ h
    | exact K.setPort _ h

theorem windowWrite (addr : Byte) (d : Word) (h : P s) : P (s.windowWrite addr d) := by
  unfold State.windowWrite
  split
  · exact K.takeCommand _ _ _ (K.commandEffect _ _ h)
  · split
    · next r _ _ f hf => exact K.takeWrite _ _ _ (K.write _ _ _ _ hf h)
    · exact K.quiet (.respond ..) h
  · exact K.quiet (.respond ..) h

theorem windowRead (addr : Byte) (h : P s) : P (s.windowRead addr) := by
  unfold State.windowRead
  split
  · exact K.takeRead _ _ _ (K.readEffect _ h)
  · exact K.quiet (.respond ..) h

omit K in
theorem hostAccess (f : State → State) (h : P s) (hf : P (f s)) : P (s.hostAccess f) := by
  unfold State.hostAccess
  split <;> assumption

/-- A command row. -/
theorem hostCommand (c : Command) (arg : Byte) (h : P s) : P (s.hostCommand c arg (c.effect arg)) :=
  Kept.hostAccess _ h (K.takeCommand _ _ _ (K.effect _ _ h))

/-- A write row. -/
theorem hostWrite (r : Reg) (addr : Byte) (d : Word) {f : State → State} (hf : r.writeEffect d = some f) (h : P s) :
    P (s.hostWrite addr d f) := Kept.hostAccess _ h (K.takeWrite _ _ _ (K.write r d f s hf h))

theorem frame (w : BitVec 32) (h : P s) : P (s.frame w) := by
  unfold State.frame
  split
  · exact K.setPort _ h
  · split
    · exact h
    · refine K.setPort _ (K.setPort _ ?_)
      unfold State.judgeFrame State.frameAccess
      split
      · split
        · exact K.windowWrite _ _ h
        · exact K.windowRead _ h
      · exact K.quiet (.rejectFrame s) h

theorem frameCutShort (k : Fin 32) (h : P s) : P (s.frameCutShort k) := by
  unfold State.frameCutShort
  split
  · exact K.setPort _ h
  · exact K.setPort _ (K.setPort _ (K.quiet (.rejectFrame s) h))

/-- Every command keeps `P`. -/
theorem exec (i : Instr) {t : State} (h : P s) (ht : Machine.exec i s = .next t) : P t := by
  cases i <;> cases ht
  case frame w => exact K.frame w h
  case frameCutShort k => exact K.frameCutShort k h
  case registerWrite addr d => exact Kept.hostAccess _ h (K.windowWrite _ _ h)
  case unknownCommand code arg => exact Kept.hostAccess _ h (K.takeCommand _ _ _ (K.commandEffect _ _ h))
  case loadSlot n => exact K.hostCommand .loadSlot n h
  case loadWatch n => exact K.hostCommand .loadWatch n h
  case commit n => exact K.hostCommand .commit n h
  case stagingFieldWrite r d => exact K.hostWrite (.staging r) _ d rfl h
  case trigger n => exact K.hostCommand .trigger n h
  case sampleCompletion k raw => exact K.completion _ _ _ h
  case deadlineExpiry => exact K.deadlineExpiry _ h
  case abort n => exact K.hostCommand .abort n h
  case restartConverter n => exact K.hostCommand .restartConverter n h
  case clearSlotStats n => exact K.hostCommand .clearSlotStats n h
  case timeCounterTick k =>
    show P (s.timeTick k)
    unfold State.timeTick
    split
    · exact h
    · exact K.tick _ _ h
  case timeLoRead => exact Kept.hostAccess _ h (K.takeRead _ _ _ (K.captureTime _ h))
  case periodicExpiry n => exact K.periodicExpiry _ _ h
  case trgEdge pin l => exact K.edge _ _ _ h
  case pwmTriggerPoint c => exact K.pointReached _ _ h
  case capturePop n => exact K.hostCommand .capturePop n h
  case captureFlush n => exact K.hostCommand .captureFlush n h
  case capCtrlWrite d => exact K.hostWrite .capCtrl _ d rfl h
  case resultSelWrite d => exact K.hostWrite .resultSel _ d rfl h
  case queueEntryRead => exact Kept.hostAccess _ h (K.takeRead _ _ _ (K.captureEntry _ h))
  case engineJobRead => exact Kept.hostAccess _ h (K.takeRead _ _ _ (K.captureJob _ h))
  case faultInfoRead => exact Kept.hostAccess _ h (K.takeRead _ _ _ (K.captureFault _ h))
  case ack n => exact K.hostCommand .ack n h
  case arm n => exact K.hostCommand .arm n h
  case disarm n => exact K.hostCommand .disarm n h
  case triplogClear n => exact K.hostCommand .triplogClear n h
  case triplogSelWrite d => exact K.hostWrite .triplogSel _ d rfl h
  case swOn n => exact K.hostCommand .swOn n h
  case swOff n => exact K.hostCommand .swOff n h
  case swClear n => exact K.hostCommand .swClear n h
  case softStartExpiry n => exact K.softStartExpiry _ _ h
  case refillExpiry n => exact K.refillExpiry _ _ h
  case retryExpiry n => exact K.retryExpiry _ _ h
  case currentLimit n => exact K.currentLimit _ _ h
  case swCfgWrite n d => exact K.hostWrite (.swCfg n) _ d rfl h
  case swTripsWrite n d => exact K.hostWrite (.swTrips n) _ d rfl h
  case pwmPeriodStart c => exact K.periodEnd _ _ h
  case pwmDutyEnd c => exact K.dutyEnd _ _ h
  case pwmCtrlWrite c d => exact K.hostWrite (.pwmCtrl c) _ d rfl h
  case pwmConfigWrite c r d => exact K.hostWrite (.pwmConfig c r) _ d rfl h
  case irqPulseExpiry =>
    refine K.setEvents _ ?_ h
    unfold EventUnit.pulseExpiry
    split <;> rfl
  case evtLatchWrite d => exact K.hostWrite .evtLatch _ d rfl h
  case evtEnableWrite d => exact K.hostWrite .evtEnable _ d rfl h
  case irqCtrlWrite d => exact K.hostWrite .irqCtrl _ d rfl h
  case guardEnter n => exact K.hostCommand .guardEnter n h
  case guardExit n => exact K.hostCommand .guardExit n h
  case softReset n => exact K.hostCommand .softReset n h
  case powerOnReset => exact K.resetAll _ _ _ h
  case resetnReset => exact K.resetAll _ _ _ h
  case resetEnd =>
    show P s.resetEnd
    unfold State.resetEnd
    split
    · exact K.setPort _ (K.resetEnd _ h)
    · exact h
  case resetCauseRead => exact Kept.hostAccess _ h (K.takeRead _ _ _ (K.setPort _ h))
  case csnRise => exact K.setPort _ h

/-- Every step keeps `P`. -/
theorem step {t : State} (h : P s) (ht : Machine.step s = .next t) : P t := by
  unfold Machine.step at ht
  split at ht
  · cases ht; exact h
  · exact K.exec _ (K.quiet (.withPending ..) h) ht

end Kept

end Sys2Proof.Machine
end

