-- ==== Sys2Proof/Laws/Rows.lean ====
section
/-! SUPPORT. Which blocks each command, register write and event can change, as one lemma each. -/

namespace Sys2Proof.Machine

open Sys2Proof.Safety

theorem withIndex_within {bs : List Block} {bound : Nat} {arg : Byte} {s : State} {f : Fin bound → CommandEnd}
    (h : ∀ n, Within bs s (f n).state) : Within bs s (withIndex bound arg s f).state := by
  unfold withIndex
  split
  · exact h _
  · exact .refl

namespace State

variable (s : State)

theorem commitSlot_within (n) : Within (.staging :: installBlocks) s (s.commitSlot n).state := by
  unfold commitSlot
  split
  · exact .refl
  · split
    · exact (installSlot_within ..).seq (stageInstalledSlot_within ..)
    · exact .refl

theorem commitWatch_within (n) : Within [.staging, .watch] s (s.commitWatch n).state := by
  unfold commitWatch
  split
  · exact .refl
  · split
    · exact .refl
    · split
      · exact (installRule_within ..).seq (stageInstalledRule_within ..)
      · exact .refl

end State

/-- Every command but SOFT_RESET stays within its blocks. -/
theorem Command.effect_within (c : Command) (arg : Byte) (s : State) (hc : c ≠ .softReset) :
    Within (commandBlocks c) s (c.effect arg s).state := by
  cases c <;> simp only [Command.effect, commandBlocks]
  case softReset => exact absurd rfl hc
  case loadSlot => exact withIndex_within fun n => s.setStaging_within _
  case loadWatch => exact withIndex_within fun n => s.setStaging_within _
  case commit =>
    unfold State.commit
    split
    · exact .refl
    · exact .refl
    · exact (s.commitSlot_within _).mono
    · exact (s.commitWatch_within _).mono
  case trigger =>
    refine withIndex_within fun n => ?_
    split
    · exact .refl
    · split
      · exact .refl
      · exact s.request_within _ _
  case abort =>
    unfold State.abort
    split
    · exact s.abandonJob_within _
    all_goals exact .refl
  case restartConverter =>
    unfold State.restartConverter
    split
    · exact (s.setEngine_within .idle).seq (cs := [.queue, .engine]) (s.setEngine .idle).grant_within
    all_goals exact .refl
  case clearSlotStats => exact withIndex_within fun n => s.setSlotRt_within _ _
  case capturePop =>
    unfold State.capturePop
    split <;> exact s.setFifo_within _
  case captureFlush => exact s.setFifo_within _
  case arm =>
    refine withIndex_within fun n => ?_
    split
    · exact s.setRuleRt_within _ _
    all_goals exact .refl
  case disarm =>
    refine withIndex_within fun n => ?_
    split
    · exact .refl
    · split
      · exact .refl
      all_goals exact s.disarmRule_within _
  case ack =>
    refine withIndex_within fun n => ?_
    split
    · exact .refl
    · split
      · exact s.clearRule_within _
      · exact (s.setRuleRt_within _ _).mono
      · exact (s.setRuleRt_within _ _).mono
      all_goals exact .refl
  case triplogClear => exact s.setTripLog_within _
  case swOn =>
    refine withIndex_within fun n => ?_
    simp only
    split
    · split <;> exact s.setSwitch_within _ _
    all_goals exact .refl
  case swOff =>
    refine withIndex_within fun n => ?_
    simp only
    split
    · exact .refl
    iterate 4 exact s.setSwitch_within _ _
    · split
      · exact s.setSwitch_within _ _
      · exact .refl
  case swClear =>
    refine withIndex_within fun n => ?_
    simp only
    split
    · exact (s.setSwitch_within _ _).seq (cs := [.events]) (State.faultUpdate_within _)
    · exact .refl
  case guardEnter =>
    unfold State.guardEnter
    split
    · exact .refl
    · split
      · exact .refl
      · split
        · exact .refl
        · exact s.enterGuard_within
  case guardExit =>
    unfold State.guardExit
    split
    · exact s.leaveGuard_within _
    · exact .refl

/-- Every register write stays within its blocks. -/
theorem Reg.writeEffect_within (r : Reg) (d : Word) (f : State → State) (s : State) (hf : r.writeEffect d = some f) :
    Within (writeBlocks r) s (f s) := by
  cases r <;> cases hf
  case staging r => exact s.setStaging_within _
  case queueSel => exact s.writeQueueSel_within d
  case resultSel => exact s.writeResultSel_within d
  case capCtrl => exact s.setFifo_within _
  case triplogSel => exact s.writeTriplogSel_within d
  case swCfg n => exact (s.setSwitch_within _ _).seq (ds := [.switches, .events]) (State.faultUpdate_within _)
  case swTrips n => exact s.setSwitch_within _ _
  case pwmCtrl c => exact s.writePwmCtrl_within c d
  case pwmConfig c r => exact s.writePwmConfig_within c r d
  case evtLatch => exact s.setEvents_within _
  case evtEnable => exact s.setEvents_within _
  case irqCtrl => exact s.setEvents_within _
  case guardCtrl => exact s.writeGuardCtrl_within d

theorem State.currentLimit_within (s : State) (n : SwIx) : Within [.switches, .events] s (s.currentLimit n) :=
  .ite ((((s.setSwitch_within ..).seq (ds := [.switches, .events]) (State.occur_within ..)).seq
    (ds := [.switches, .events]) (State.occurIf_within ..)).seq (State.faultUpdate_within _)) .refl

end Sys2Proof.Machine
end

