-- ==== Sys2Proof/Laws/Port.lean ====
section
/-! SUPPORT. Frames taken apart and the window's registers reached by address, as the rows of the table reach them. -/

namespace Sys2Proof.Machine

open Sys2Proof.Safety

/-! ## Frames -/

section Fields

variable (a : BitVec 4) (addr : Byte) (d : Word)

theorem accepted_withCheck (ha : field a 0 3 = 0) : frameAccepted (withCheck (a ++ addr ++ d)) = true := by
  unfold frameAccepted withCheck
  rw [field_lo, field_hi, field_up _ _ 24, field_up _ _ 8, field_up _ _ 0, ha]
  simp

theorem addr_withCheck : field (withCheck (a ++ addr ++ d)) 20 8 = addr := by
  unfold withCheck
  rw [field_up _ _ 16, field_up _ _ 0, field_lo]

theorem data_withCheck : field (withCheck (a ++ addr ++ d)) 4 16 = d := by
  unfold withCheck
  rw [field_up _ _ 0, field_lo]

theorem w_withCheck : (withCheck (a ++ addr ++ d)).getLsbD 31 = a.getLsbD 3 := by
  unfold withCheck
  rw [BitVec.getLsbD_append, if_neg (by omega), BitVec.getLsbD_append, if_neg (by omega), BitVec.getLsbD_append,
    if_neg (by omega)]

end Fields

variable {s : State}

theorem State.frame_accepted {w : BitVec 32} (h : Ready s) (h' : s.port.selected = false) (ha : frameAccepted w = true) :
    s.frame w = ((s.frameAccess w).shiftOut s.port.response 32).setSelected true := by
  simp [State.frame, h, h', State.judgeFrame, ha]

/-- The frame of a write reaches the window. -/
theorem State.frame_write {addr : Byte} {d : Word} (h : Ready s) (h' : s.port.selected = false) :
    s.frame (writeFrame addr d) = ((s.windowWrite addr d).shiftOut s.port.response 32).setSelected true := by
  unfold writeFrame
  rw [State.frame_accepted h h' (accepted_withCheck _ _ _ (by decide))]
  simp only [State.frameAccess, w_withCheck, addr_withCheck, data_withCheck]
  rfl

/-- The frame of a read reaches the window. -/
theorem State.frame_read {addr : Byte} {d : Word} (h : Ready s) (h' : s.port.selected = false) :
    s.frame (readFrame addr d) = ((s.windowRead addr).shiftOut s.port.response 32).setSelected true := by
  unfold readFrame
  rw [State.frame_accepted h h' (accepted_withCheck _ _ _ (by decide))]
  simp only [State.frameAccess, w_withCheck, addr_withCheck]
  rfl

/-! ## Registers by address -/

theorem ofAddr_regAddr (r : Reg) : Reg.ofAddr (regAddr r) = some r := by
  cases r
  case staging r => cases r <;> rfl
  case swCfg n => revert n; decide
  case swState n => revert n; decide
  case swHold n => revert n; decide
  case swTrips n => revert n; decide
  case pwmCtrl n => revert n; decide
  case pwmConfig n r => cases r <;> revert n <;> decide
  case pwmState n => revert n; decide
  case pwmApplied n => revert n; decide
  case pwmCapmin n => revert n; decide
  case pwmCapset n => revert n; decide
  case pwmForce n => revert n; decide
  all_goals rfl

theorem stgAddr_eq (r : StgReg) : stgAddr r = stagingAddr r := by cases r <;> rfl

theorem swAddr_eq (n : SwIx) : swAddr n 0 = ofSwitch 0x60 n ∧ swAddr n 3 = ofSwitch 0x63 n := by revert n; decide

theorem pwmAddr_ctrl (c : ChIx) : pwmAddr c 0 = ofChannel 0x80 c := by revert c; decide

theorem pwmAddr_config (c : ChIx) (r : PwmReg) : pwmAddr c (pwmOffset r) = ofChannel (pendingBase r) c := by
  cases r <;> revert c <;> decide

/-- A write of COMMAND is the command's row. -/
theorem State.windowWrite_command (h : Ready s) (c : Command) (arg : Byte) :
    s.windowWrite 0x01 (c.code ++ arg) = s.hostCommand c arg (c.effect arg) := by
  have h1 : field (c.code ++ arg) 8 8 = c.code := field_hi _ _
  have h2 : field (c.code ++ arg) 0 8 = arg := field_lo _ _
  rw [State.hostCommand_ready h, State.windowWrite, show Reg.ofAddr 0x01 = some .command from rfl]
  simp only [h1, h2, commandEffect_code]

/-- A write of a writable register is its row. -/
theorem State.windowWrite_reg (h : Ready s) (r : Reg) (d : Word) (hr : r ≠ .command) {f : State → State}
    (hf : r.writeEffect d = some f) : s.windowWrite (regAddr r) d = s.hostWrite (regAddr r) d f := by
  rw [State.hostWrite_ready h, State.windowWrite, ofAddr_regAddr]
  cases r <;> first | contradiction | (simp only [hf]; rfl)

/-- A read of a register is its row. -/
theorem State.windowRead_reg (h : Ready s) (r : Reg) :
    s.windowRead (regAddr r) = s.hostRead (regAddr r) r.readEffect r.value := by
  rw [State.hostRead_ready h, State.windowRead, ofAddr_regAddr]
  rfl

/-! ## How commands end -/

theorem withIndex_result {bound : Nat} {arg : Byte} {f : Fin bound → CommandEnd}
    (h : ∀ i, ∃ mid r, f i = .result mid r ∧ (r.isRefusal = true → mid = s)) :
    ∃ mid r, withIndex bound arg s f = .result mid r ∧ (r.isRefusal = true → mid = s) := by
  unfold withIndex
  split
  · exact h _
  · exact ⟨_, _, rfl, fun _ => rfl⟩

/-- Every command but SOFT_RESET ends with a result, and one that is refused has left the state alone (R193). -/
theorem Command.effect_result (c : Command) (hc : c ≠ .softReset) (arg : Byte) (s : State) :
    ∃ mid r, c.effect arg s = .result mid r ∧ (r.isRefusal = true → mid = s) := by
  cases c <;> simp only [Command.effect, ne_eq, not_true] at hc ⊢
  case commit =>
    unfold State.commit State.commitSlot State.commitWatch
    repeat' split
    all_goals exact ⟨_, _, rfl, by simp [ResultCode.isRefusal]⟩
  case trigger =>
    refine withIndex_result fun i => ?_
    split
    · exact ⟨_, _, rfl, by simp⟩
    · split
      · exact ⟨_, _, rfl, by simp⟩
      · exact ⟨_, _, rfl, by split <;> simp [ResultCode.isRefusal]⟩
  case abort =>
    unfold State.abort
    split <;> exact ⟨_, _, rfl, by simp [ResultCode.isRefusal]⟩
  case restartConverter =>
    unfold State.restartConverter
    split <;> exact ⟨_, _, rfl, by simp [ResultCode.isRefusal]⟩
  case capturePop =>
    unfold State.capturePop
    split <;> exact ⟨_, _, rfl, by simp [ResultCode.isRefusal]⟩
  case guardEnter =>
    unfold State.guardEnter
    repeat' split
    all_goals exact ⟨_, _, rfl, by simp [ResultCode.isRefusal]⟩
  case guardExit =>
    unfold State.guardExit
    split <;> exact ⟨_, _, rfl, by simp [ResultCode.isRefusal]⟩
  case captureFlush => exact ⟨_, _, rfl, by simp [ResultCode.isRefusal]⟩
  case triplogClear => exact ⟨_, _, rfl, by simp [ResultCode.isRefusal]⟩
  all_goals
    refine withIndex_result fun i => ?_
    try dsimp only
    repeat' split
    all_goals exact ⟨_, _, rfl, by simp [ResultCode.isRefusal]⟩

end Sys2Proof.Machine
end

