-- ==== Sys2Proof/Laws/PerInstr.lean ====
section
/-! SUPPORT. Statements about every command as it is written, proved one constructor at a time. -/

namespace Sys2Proof.Laws.Framed

open Sys2Proof.Machine Sys2Proof.Safety

/-- A frame that carries a row's access is accepted: its check holds and its bits 30 to 28 are 000b (R186). -/
def Statement (i : Instr) : Prop := ∀ w ignored, framesOf i ignored = some w → frameAccepted w = true

theorem carried (i : Instr) : Statement i := by
  intro w ignored h
  unfold framesOf at h
  split at h
  · cases h
    exact accepted_withCheck _ _ _ (by decide)
  · cases h
    exact accepted_withCheck _ _ _ (by decide)
  · cases h

theorem frame (w : BitVec 32) : Statement (.frame w) := carried _
theorem frameCutShort (bits : Fin 32) : Statement (.frameCutShort bits) := carried _
theorem registerWrite (addr : Byte) (data : Word) : Statement (.registerWrite addr data) := carried _
theorem unknownCommand (code arg : Byte) : Statement (.unknownCommand code arg) := carried _
theorem loadSlot (n : Byte) : Statement (.loadSlot n) := carried _
theorem loadWatch (n : Byte) : Statement (.loadWatch n) := carried _
theorem commit (arg : Byte) : Statement (.commit arg) := carried _
theorem stagingFieldWrite (r : StgReg) (data : Word) : Statement (.stagingFieldWrite r data) := carried _
theorem trigger (n : Byte) : Statement (.trigger n) := carried _
theorem sampleCompletion (sample : Nat) (raw : Code12) : Statement (.sampleCompletion sample raw) := carried _
theorem deadlineExpiry : Statement (.deadlineExpiry) := carried _
theorem abort (arg : Byte) : Statement (.abort arg) := carried _
theorem restartConverter (arg : Byte) : Statement (.restartConverter arg) := carried _
theorem clearSlotStats (n : Byte) : Statement (.clearSlotStats n) := carried _
theorem timeCounterTick (micros : Nat) : Statement (.timeCounterTick micros) := carried _
theorem timeLoRead : Statement (.timeLoRead) := carried _
theorem periodicExpiry (n : SlotIx) : Statement (.periodicExpiry n) := carried _
theorem trgEdge (pin : TrgPin) (level : Level) : Statement (.trgEdge pin level) := carried _
theorem pwmTriggerPoint (c : ChIx) : Statement (.pwmTriggerPoint c) := carried _
theorem capturePop (arg : Byte) : Statement (.capturePop arg) := carried _
theorem captureFlush (arg : Byte) : Statement (.captureFlush arg) := carried _
theorem capCtrlWrite (data : Word) : Statement (.capCtrlWrite data) := carried _
theorem resultSelWrite (data : Word) : Statement (.resultSelWrite data) := carried _
theorem queueEntryRead : Statement (.queueEntryRead) := carried _
theorem engineJobRead : Statement (.engineJobRead) := carried _
theorem faultInfoRead : Statement (.faultInfoRead) := carried _
theorem ack (n : Byte) : Statement (.ack n) := carried _
theorem arm (n : Byte) : Statement (.arm n) := carried _
theorem disarm (n : Byte) : Statement (.disarm n) := carried _
theorem triplogClear (arg : Byte) : Statement (.triplogClear arg) := carried _
theorem triplogSelWrite (data : Word) : Statement (.triplogSelWrite data) := carried _
theorem swOn (n : Byte) : Statement (.swOn n) := carried _
theorem swOff (n : Byte) : Statement (.swOff n) := carried _
theorem swClear (n : Byte) : Statement (.swClear n) := carried _
theorem softStartExpiry (n : SwIx) : Statement (.softStartExpiry n) := carried _
theorem refillExpiry (n : SwIx) : Statement (.refillExpiry n) := carried _
theorem retryExpiry (n : SwIx) : Statement (.retryExpiry n) := carried _
theorem currentLimit (n : SwIx) : Statement (.currentLimit n) := carried _
theorem swCfgWrite (n : SwIx) (data : Word) : Statement (.swCfgWrite n data) := carried _
theorem swTripsWrite (n : SwIx) (data : Word) : Statement (.swTripsWrite n data) := carried _
theorem pwmPeriodStart (c : ChIx) : Statement (.pwmPeriodStart c) := carried _
theorem pwmDutyEnd (c : ChIx) : Statement (.pwmDutyEnd c) := carried _
theorem pwmCtrlWrite (c : ChIx) (data : Word) : Statement (.pwmCtrlWrite c data) := carried _
theorem pwmConfigWrite (c : ChIx) (r : PwmReg) (data : Word) : Statement (.pwmConfigWrite c r data) := carried _
theorem irqPulseExpiry : Statement (.irqPulseExpiry) := carried _
theorem evtLatchWrite (data : Word) : Statement (.evtLatchWrite data) := carried _
theorem evtEnableWrite (data : Word) : Statement (.evtEnableWrite data) := carried _
theorem irqCtrlWrite (data : Word) : Statement (.irqCtrlWrite data) := carried _
theorem guardEnter (arg : Byte) : Statement (.guardEnter arg) := carried _
theorem guardExit (arg : Byte) : Statement (.guardExit arg) := carried _
theorem softReset (arg : Byte) : Statement (.softReset arg) := carried _
theorem powerOnReset : Statement (.powerOnReset) := carried _
theorem resetnReset : Statement (.resetnReset) := carried _
theorem resetEnd : Statement (.resetEnd) := carried _
theorem resetCauseRead : Statement (.resetCauseRead) := carried _
theorem csnRise : Statement (.csnRise) := carried _

end Sys2Proof.Laws.Framed
end

