-- ==== Sys2Proof/Laws/Pwm.lean ====
section
/-! SUPPORT. How a PWM position takes up the time that passes (R151, log 5): no unit is lost and no event is passed. -/

namespace Sys2Proof.Machine.Channel

variable (x : Channel)

/-! ## The next event -/

theorem trigAhead_iff : x.trigAhead = true ↔ x.trigDone = false ∧ x.trig.toNat < x.period.toNat := by simp [trigAhead]

theorem dutyAhead_iff : x.dutyAhead = true ↔ x.position < x.duty.toNat ∧ x.duty.toNat < x.period.toNat := by simp [dutyAhead]

/-- The next event falls within the period. -/
theorem nextPoint_le : x.nextPoint ≤ x.period.toNat := min_le_right _ _

theorem nextPoint_le_trig (h : x.trigAhead = true) : x.nextPoint ≤ x.trig.toNat := by
  rw [nextPoint, if_pos h]
  omega

theorem nextPoint_le_duty (h : x.dutyAhead = true) : x.nextPoint ≤ x.duty.toNat := by
  rw [nextPoint, if_pos h]
  omega

/-- The next event is one of the three, and one that is still to come. -/
theorem nextPoint_cases : (x.trigAhead = true ∧ x.nextPoint = x.trig.toNat) ∨
    (x.dutyAhead = true ∧ x.nextPoint = x.duty.toNat) ∨ x.nextPoint = x.period.toNat := by
  unfold nextPoint
  by_cases h : x.trigAhead = true <;> by_cases h' : x.dutyAhead = true <;> simp only [h, h'] <;> simp <;> omega

/-! ## Time taken up -/

@[simp] theorem catchUp_cfg : x.catchUp.cfg = x.cfg := rfl
@[simp] theorem catchUp_running : x.catchUp.running = x.running := rfl
@[simp] theorem catchUp_period : x.catchUp.period = x.period := rfl
@[simp] theorem catchUp_trig : x.catchUp.trig = x.trig := rfl
@[simp] theorem catchUp_duty : x.catchUp.duty = x.duty := rfl
@[simp] theorem catchUp_caps : x.catchUp.caps = x.caps := rfl
@[simp] theorem catchUp_forces : x.catchUp.forces = x.forces := rfl
@[simp] theorem catchUp_trigDone : x.catchUp.trigDone = x.trigDone := rfl

/-- Catching up moves time from what is owed into the position, and loses none. -/
theorem catchUp_total : x.catchUp.position + x.catchUp.owed = x.position + x.owed := by
  simp only [catchUp]
  omega

/-- Catching up passes no event. -/
theorem catchUp_position_lt (h : x.position < x.period.toNat) : x.catchUp.position < x.period.toNat := by
  have := x.nextPoint_le
  simp only [catchUp]
  omega

/-- With nothing owed the position stands. -/
theorem catchUp_of_owed_zero (h : x.owed = 0) : x.catchUp = x := by
  obtain ⟨cfg, running, position, period, trig, duty, caps, forces, trigDone, owed⟩ := x
  cases h
  simp [catchUp]

/-- `k` microseconds bring 20 units each. -/
theorem tick_total (k : Nat) (h : x.running = true) :
    (x.tick k).position + (x.tick k).owed = x.position + x.owed + 20 * k := by
  rw [tick, if_pos h, catchUp_total]
  simp only [Config.unitsPerMicro]
  omega

/-- The time to a point that is reached goes into the position, the rest stays owed. -/
theorem arrive_total {p : Nat} (h : p ≤ x.position + x.owed) : (x.arrive p).position + (x.arrive p).owed = x.position + x.owed := by
  simp only [arrive]
  omega

end Sys2Proof.Machine.Channel
end

