-- ==== Sys2Proof/Laws/Sources.lean ====
section
/-! SUPPORT. Requests, rules and switches: what the shared operations answer, in the words the statements use. -/

namespace Sys2Proof.Machine

open Sys2Proof.Safety

namespace State

variable (s : State)

/-! ## Requests -/

theorem request_records (o n) : (s.request o n).slots.records = s.slots.records := by
  unfold request
  split
  · split <;> rfl
  · rw [(s.enqueue_within o n).slots]

theorem request_mode (o n) : (s.request o n).mode = s.mode := (s.request_within o n).mode

/-- R45: what a source's event for one slot does. -/
theorem raise_eq (o : Origin) (n : SlotIx) :
    s.raise o n =
      if (s.record n).enabled = true ∧ (s.mode.mode = .active ∨ (s.record n).guard = true) then s.request o n else s := by
  simp [raise, mayRaise]

/-- R48: the reload is the period, times the stretch factor 1, 4, 16 or 64 for a guard slot in GUARD. -/
theorem reload_eq (n : SlotIx) (period : Word) :
    s.reload n period =
      period.toNat * if s.mode.mode = .guard ∧ (s.record n).guard = true then 4 ^ s.mode.stretch.toNat else 1 := by
  have factor : ∀ c : BitVec 2, stretchFactor c = 4 ^ c.toNat := by decide
  unfold reload
  cases s.mode.mode <;> simp [factor]

/-- The requests of one occurrence, judged one by one, are those that could be raised at its beginning (R45). -/
theorem raiseAll_eq (o : Origin) (raises : SlotRecord → Bool) :
    s.raiseAll o raises = requestEach o (raisable s raises) s := by
  unfold raiseAll requestEach raisable
  have key : ∀ (l : List SlotIx) (t : State), t.slots.records = s.slots.records → t.mode = s.mode →
      l.foldl (fun t n => if raises (t.record n) then t.raise o n else t) t =
        (l.filter fun n => raises (s.record n) && (s.record n).enabled &&
          (s.mode.mode == .active || (s.record n).guard)).foldl (fun t n => t.request o n) t := by
    intro l
    induction l with
    | nil => intros; rfl
    | cons a l ih =>
      intro t h1 h2
      have hr : t.record a = s.record a := by simp [record, h1]
      have hm : t.mayRaise a = ((s.record a).enabled && (s.mode.mode == .active || (s.record a).guard)) := by
        simp only [mayRaise, hr, h2]
      have hstep : (if raises (t.record a) = true then t.raise o a else t) =
          if (raises (s.record a) && (s.record a).enabled && (s.mode.mode == .active || (s.record a).guard)) = true then
            t.request o a
          else t := by
        unfold raise
        rw [hm, hr, Bool.and_assoc]
        cases raises (s.record a) <;> simp
      rw [List.foldl_cons, List.filter_cons, hstep]
      split
      · rw [List.foldl_cons]
        exact ih _ ((request_records ..).trans h1) ((request_mode ..).trans h2)
      · exact ih _ h1 h2
  exact key _ s rfl rfl

/-! ## Rules and their sources -/

theorem pinnedSource_iff (n : SlotIx) : s.pinnedSource n = true ↔
    ∃ r, (s.rule r).pinned = true ∧ ((s.rule r).srcA = n ∨ (s.rule r).kind = .diffAbove n) := by
  unfold pinnedSource
  simp only [List.any_eq_true, List.mem_finRange, true_and, Bool.and_eq_true, Bool.or_eq_true, beq_iff_eq]
  refine exists_congr fun r => and_congr_right fun _ => or_congr_right ?_
  cases (s.rule r).kind <;> simp

theorem setRuleRt_self (n : RuleIx) : s.setRuleRt n (s.ruleRt n) = s := by simp [setRuleRt, ruleRt]

/-! ## Switches -/

theorem setSwitch_self (n : SwIx) : s.setSwitch n (s.switch n) = s := by simp [setSwitch, switch]

end State

theorem Switch.due_iff (w : Switch) (k : TimerKind) : w.due k = true ↔ w.timer = some ⟨k, 0⟩ := by
  unfold Switch.due
  split
  · next t h => obtain ⟨a, b⟩ := t; simp [h, timeIsUp]
  · next h => simp [h]

theorem softStartMicros_eq (c : BitVec 2) : softStartMicros c = [250, 500, 1000, 2000].getD c.toNat 0 := by
  revert c
  decide

/-! ## Samples -/

namespace Job

theorem sampleLength_eq (j : Job) : j.sampleLength = sampleMicros j.acq j.res := by
  have table : ∀ (a : BitVec 3) (r : Resolution), acquisitionMicros a + conversionMicros r = sampleMicros a r := by
    intro a r
    cases r <;> revert a <;> decide
  exact table _ _

theorem deadline_eq (j : Job) : j.deadline = deadlineMicros j.acq j.res := by
  have table : ∀ (a : BitVec 3) (r : Resolution), sampleMicros a r + 20 = deadlineMicros a r := by
    intro a r
    cases r <;> revert a <;> decide
  rw [deadline, sampleLength_eq]
  exact table _ _

end Job

theorem State.completes_iff (s : State) (j : Job) : s.completes j = true ↔
    sampleMicros j.acq j.res ≤ (s.now - j.sampleStart).toNat ∧ (s.now - j.sampleStart).toNat ≤ deadlineMicros j.acq j.res := by
  rw [← j.sampleLength_eq, ← j.deadline_eq]
  exact decide_eq_true_iff

/-! ## Losses of the capture FIFO -/

/-- R84, R88: an absent gap counts as no loss. -/
theorem gapField_getD (lost : Nat) : (gapField lost).getD 0 = lost := by
  unfold gapField
  split <;> simp_all

/-! ## Verdicts -/

theorem Verdict.ofBands_sorted (q r : Bool) :
    (Verdict.ofBands q r = .qualifying ↔ q = true) ∧ (Verdict.ofBands q r = .releasing ↔ r = true ∧ ¬q = true) ∧
      Verdict.ofBands q r ≠ .skipped := by
  cases q <;> cases r <;> simp [Verdict.ofBands]

/-- The bands of R105 sort a value for every kind. -/
theorem WatchRecord.bands_sorted (r : WatchRecord) (v : Int) :
    (r.bands v = .qualifying ↔ qualifyingBand r.kind.toCode r.t1.toInt r.kind.t2.toNat v) ∧
      (r.bands v = .releasing ↔ releasingBand r.kind.toCode r.t1.toInt r.kind.t2.toNat r.h.toNat v ∧
        ¬qualifyingBand r.kind.toCode r.t1.toInt r.kind.t2.toNat v) ∧ r.bands v ≠ .skipped := by
  unfold WatchRecord.bands
  cases hk : r.kind <;> simp only [WatchKind.toCode, WatchKind.t2, qualifyingBand, releasingBand]
  all_goals
    have this := Verdict.ofBands_sorted
    exact ⟨by rw [(this _ _).1]; simp, by rw [(this _ _).2.1]; simp, (this _ _).2.2⟩

end Sys2Proof.Machine
end

