-- ==== Sys2Proof/Tests/Slice0.lean ====
section
/-! SUPPORT. Tests of the model: operands that are refused as ill formed, the spec's worked values, each command on a small
state, and for each statement with hypotheses states and operands that meet them. -/

namespace Sys2Proof.Tests

open Sys2Proof.Machine Sys2Proof.Safety

set_option maxRecDepth 20000

/-! ## Small states -/

/-- A command answers a next state that has the property `p`. -/
def gives (o : Out) (p : State → Bool) : Bool :=
  match o with
  | .next t => p t
  | .fault _ | .refused _ => false

/-- The part right after reset. -/
abbrev s0 : State := State.reset

/-- The part in GUARD. -/
def inGuard (s : State) : State := s.setMode { s.mode with mode := .guard }

/-- A reset is in progress. -/
def inReset (s : State) : State := s.setPort { s.port with inReset := true }

/-- An ENABLED slot record of a trigger kind. -/
def slotOf (t : Trigger) : SlotRecord := { SlotRecord.reset with enabled := true, trigger := t }

/-- A guard slot of kind HOST_ONLY. -/
def guardSlot : SlotRecord := { slotOf .hostOnly with guard := true }

/-- An entry of slot `n`. -/
def entryOf (n : SlotIx) (cls : PClass) (ctx : Option Context) : Entry :=
  { slot := n, cls := cls, origin := .host, enq := 7, ctx := ctx }

/-- A job of slot `n` with one of two samples done, sample 5 in progress from time 0. -/
def jobOf (n : SlotIx) : Job :=
  { slot := n, cls := .normal, origin := .host, enq := 0, input := 3, acq := 0, res := .bits12, avg := .x2, done := 1
    sum := 100, clipped := false, first := 0, withdrawn := false, sampleStart := 0, sampleId := 5 }

/-- The engine runs a job. -/
def busy (s : State) (j : Job) : State := s.setEngine (.busy j)

/-- The engine runs a job whose sample started at 0, `k` microseconds ago. -/
def busyFor (k : Nat) (s : State) (j : Job) : State := (busy s j).tick k

/-- A rule ABOVE 1000 on slot 0 that opens SW0, forces PWM1 and caps PWM2. -/
def aboveRule : WatchRecord :=
  { WatchRecord.reset with
    t1 := 1000, h := 10, openMask := 1, forceMask := 2, cap := some (2, 5), fault := true, irq := true }

/-- A runtime in a state. -/
def runtimeIn (st : RuleState) : RuleRuntime := { RuleRuntime.reset with state := st }

/-- Rule `n` holds record `r` and is in state `st`. -/
def ruled (s : State) (n : RuleIx) (r : WatchRecord) (st : RuleState) : State := (s.setRule n r).setRuleRt n (runtimeIn st)

/-- A switch in a state with its timer. -/
def switchIn (st : SwitchState) (timer : Option SwitchTimer) : Switch :=
  { Switch.reset with state := st, demand := true, timer := timer }

/-- A running channel at a position, with period 100, duty 40 and trigger point 60. -/
def runningAt (position : Nat) : Channel :=
  { Channel.reset with
    cfg := { Channel.reset.cfg with enable := true, period := 100, duty := 40, trig := 60 }
    running := true, position := position, period := 100, trig := 60, duty := 40 }

/-- The staging buffer is LOADED for a target. -/
def staged (s : State) (t : Target) : State := s.setStaging { s.staging with state := .loaded, target := t }

/-- A VALID result record of value `v`. -/
def validResult (v : Code12) : ResultRecord := { ResultRecord.reset with state := .valid, value := v, samples := 1 }

/-- A capture entry with a gap. -/
def captured (gap : Option Nat) : CaptureEntry :=
  { slot := 1, seq := 2, value := 3, invalid := false, clipped := false, time := 4, gap := gap }

/-- A full capture FIFO. -/
def fullFifo (p : FullPolicy) : CaptureFifo :=
  { CaptureFifo.reset with entries := captured (some 3) :: List.replicate 63 (captured none), policy := p }

/-- A trip log entry. -/
def tripped (overflow : Nat) : TripEntry :=
  { rule := 0, aSlot := 0, aValue := 1, aInvalid := false, b := none, time := 2, overflow := overflow }

/-! ## Well-formedness -/

theorem test_illFormed_registerWrite : Instr.wellFormed (.registerWrite 0x60 0) = false := by decide

theorem test_illFormed_unknownCommand : Instr.wellFormed (.unknownCommand 0x60 0) = false := by decide

theorem test_illFormed_tick : Instr.wellFormed (.timeCounterTick 0) = false := by decide

theorem test_wellFormed :
    Instr.wellFormed (.registerWrite 0xD0 3) = true ∧ Instr.wellFormed (.unknownCommand 0x61 0) = true ∧
      Instr.wellFormed (.timeCounterTick 1) = true ∧ Instr.wellFormed (.sampleCompletion 0 0) = true := by decide

theorem test_noTableWord : decodeTableWord 32 0x00000007 = none := rfl

/-! ## Frames -/

/-- 11.1: "A read of RESET_CAUSE", whose check is worked out bit by bit. -/
theorem test_workedCheck : readFrame 0x00 0x0000 = 0x00000007 ∧ frameAccepted 0x00000007 = true := by decide

theorem test_frame_readsCause :
    gives (exec (.frame 0x00000007) s0) (fun t => t.port.response == ⟨false, false, false, false, 0x00, 1⟩ &&
      t.port.selected && t.port.shifted == ⟨Response.reset.word, 32⟩) = true := by decide

theorem test_frameCutShort :
    gives (exec (.frameCutShort 31) s0) (fun t => t.events.latches == 0x200 && t.port.response.rej &&
      !t.port.selected && t.port.shifted.bits == 31) = true := by decide

/-- The hypotheses of FramesRejected, clause by clause. -/
theorem test_framesRejected_witness :
    (Ready s0 ∧ s0.port.selected = false ∧ field (0x00000006 : BitVec 32) 0 4 ≠ check (field (0x00000006 : BitVec 32) 4 28)) ∧
      (field (withCheck (0b0001#4 ++ 0#8 ++ 0#16)) 28 3 ≠ 0) ∧
        (Ready (s0.setSelected true) ∧ (s0.setSelected true).port.selected = true) ∧ (inReset s0).port.inReset = true := by
  decide

/-- The hypotheses of FrameRunsRow. -/
theorem test_frameRunsRow_witness :
    ∃ w t, framesOf (.trigger 31) 0 = some w ∧ Ready s0 ∧ s0.port.selected = false ∧ exec (.trigger 31) s0 = .next t :=
  ⟨_, _, rfl, rfl, rfl, rfl⟩

/-- The hypotheses of FrameReads and RegisterMap: a register, an unmapped address, a read-only register. -/
theorem test_window_witness :
    regAddr .guardStatus = 0xD1 ∧ Reg.ofAddr 0x03 = none ∧ Reg.ofAddr 0xFF = none ∧ writable .cmdResult = false ∧
      gives (exec (.frame (readFrame 0x03 0xFFFF)) s0) (fun t => t.port.response.data == 0) = true := by decide

theorem test_registerWrite :
    gives (exec (.registerWrite 0xD0 3) s0) (fun t => t.mode.stretch == 3 && t.port.response.data == 3) = true ∧
      gives (exec (.registerWrite 0xFF 3) s0) (fun t => t.mode.stretch == 0 && t.port.response.data == 0xFFFC) = true := by
  decide

theorem test_unknownCommand :
    (0xFF : Byte) ∉ commandCodes ∧ gives (exec (.unknownCommand 0xFF 9) s0) (fun t =>
      Reg.value .cmdResult t == 0xFF10 && t.events.latches == 0x100 && t.port.response.data == 0xFF09) = true := by decide

/-- The hypotheses of CommandResults at both ends of the codes. -/
theorem test_commandResults_witness :
    commandBytes (.loadSlot 255) = some (0x01, 255) ∧ commandBytes (.guardExit 0) = some (0x51, 0) ∧
      gives (exec (.loadSlot 255) s0) (fun t => Reg.value .cmdResult t == 0x0111) = true := by decide

/-! ## Resets -/

theorem test_resets :
    gives (exec .powerOnReset (inGuard s0)) (fun t => t.mode == .reset && t.port.inReset && t.port.resetCause == .por) = true ∧
      gives (exec .resetnReset (inGuard s0)) (fun t => t.port.inReset && t.port.resetCause == .pin) = true ∧
        gives (exec .resetnReset (inReset s0)) (fun t => t.port.resetCause == .por) = true ∧
          gives (exec .resetEnd (inReset s0)) (fun t => !t.port.inReset) = true := by decide

/-- The hypotheses of SoftReset. -/
theorem test_softReset_witness :
    (Ready (ruled s0 15 { aboveRule with pinned := true } .clear) ∧
      ((ruled s0 15 { aboveRule with pinned := true } .clear).rule 15).pinned = true) ∧
      (Ready (inGuard s0) ∧ ∀ n, ((inGuard s0).rule n).pinned = false) ∧
        gives (exec (.softReset 0) (inGuard s0)) (fun t => t.mode == .reset && t.port.resetCause == .soft) = true := by
  decide

theorem test_resetCauseRead :
    gives (exec .resetCauseRead s0) (fun t => !t.port.resetIndication && t.port.response.data == 1) = true := by decide

theorem test_csnRise : gives (exec .csnRise (s0.setSelected true)) (fun t => !t.port.selected) = true := by decide

/-! ## Staging and COMMIT -/

/-- An undefined edge code and an undefined kind code leave their fields (R7). -/
theorem test_stagingFieldWrite :
    Ready s0 ∧ gives (exec (.stagingFieldWrite .slotB 0xFFFF) s0) (fun t => t.staging.read .slotB == 0xFF38) = true ∧
      gives (exec (.stagingFieldWrite .watchT1 0x1FFF) s0) (fun t => t.staging.read .watchT1 == 0xFFFF) = true := by decide

theorem test_loads :
    gives (exec (.loadSlot 31) s0) (fun t => t.staging.state == .loaded && t.staging.target == .slot 31) = true ∧
      gives (exec (.loadSlot 32) s0) (fun t => t.staging.state == .empty && t.port.cmdResult == 0x11) = true ∧
        gives (exec (.loadWatch 15) s0) (fun t => t.staging.target == .watch 15 && t.staging.watch.confirm == 1) = true ∧
          gives (exec (.loadWatch 16) s0) (fun t => t.port.cmdResult == 0x11) = true := by decide

/-- The queue part of LoadCommands' hypotheses: a plain entry and a context entry. -/
theorem test_statusValues_witness :
    let s := s0.setSublists [] [entryOf 3 .normal (some ⟨1, 5, false, 0⟩), entryOf 4 .normal none]
    QueueShape s ∧ s.queueStatus 3 = .suspended ∧ s.queueStatus 4 = .queued ∧ s.queueStatus 5 = .notQueued := by decide

/-- A table in which slot `n + 1` follows slot `n` for `n` below 4. -/
def chain : State :=
  (((s0.setRecord 1 (slotOf (.follow 0))).setRecord 2 (slotOf (.follow 1))).setRecord 3 (slotOf (.follow 2))).setRecord 4
    (slotOf (.follow 3))

/-- The hypotheses of ChainChecks: a loop of five, and a line of six without a loop. -/
theorem test_chainChecks_witness :
    LineLaw chain ∧ chain.closesLoop 0 { SlotFields.reset with kind := .follow, leader := 4 } = true ∧
      chain.closesLoop 5 { SlotFields.reset with kind := .follow, leader := 4 } = false ∧
        chain.lineLength 5 { SlotFields.reset with kind := .follow, leader := 4 } = 6 :=
  ⟨by unfold LineLaw; decide, by decide, by decide, by decide⟩

/-- The reset record fails the check (R100); a DIFF_ABOVE may have a negative threshold. -/
theorem test_emptyReleaseBand_witness :
    (WatchFields.reset.kind ≠ .diffAbove ∧ 0 ≤ WatchFields.reset.t1.toInt ∧ WatchFields.reset.emptyReleaseBand = true) ∧
      { WatchFields.reset with t1 := 1 }.emptyReleaseBand = false ∧
        { WatchFields.reset with kind := .diffAbove, t1 := -1 }.emptyReleaseBand = false := by decide

/-- The staging buffer is LOADED for a target, and the mode is ACTIVE. -/
abbrev isOpen (s : State) (t : Target) : Prop :=
  Ready s ∧ s.staging.state = .loaded ∧ s.mode.mode = .active ∧ s.staging.target = t

/-- The hypotheses of CommitRefused, clause by clause. -/
theorem test_commitRefused_witness :
    let pinned := { aboveRule with pinned := true }
    let badSlot := (staged s0 (.slot 31)).setStaging { (staged s0 (.slot 31)).staging with
      slot := { SlotFields.reset with input := 24 } }
    let latched := staged (ruled s0 15 aboveRule .latched) (.watch 15)
    let locked := staged (ruled s0 15 pinned .pending) (.watch 15)
    s0.staging.state = .empty ∧
      ((staged (inGuard s0) (.slot 0)).staging.state = .loaded ∧ (staged (inGuard s0) (.slot 0)).mode.mode = .guard) ∧
      (isOpen (staged (ruled s0 1 pinned .clear) (.slot 0)) (.slot 0) ∧
        (staged (ruled s0 1 pinned .clear) (.slot 0)).pinnedSource 0 = true) ∧
      (isOpen badSlot (.slot 31) ∧ badSlot.pinnedSource 31 = false ∧ badSlot.detail = .badInput) ∧
      (isOpen latched (.watch 15) ∧ (latched.ruleRt 15).state = .latched) ∧
      (isOpen locked (.watch 15) ∧ (locked.ruleRt 15).state.active = false ∧ (locked.rule 15).pinned = true) ∧
      (isOpen (staged s0 (.watch 0)) (.watch 0) ∧ (s0.ruleRt 0).state.active = false ∧ (s0.rule 0).pinned = false ∧
        (staged s0 (.watch 0)).detail = .emptyReleaseBand) := by decide

theorem test_commit_refused :
    gives (exec (.commit 0) s0) (fun t => t.port.cmdResult == 0x13) = true ∧
      gives (exec (.commit 0) (staged s0 (.watch 0))) (fun t => t.port.cmdResult == 0x14) = true := by decide

/-- The hypotheses of RecordRoundTrip at the ends of their ranges, and what the two field groups install. -/
theorem test_recordFields_witness :
    (let f := { SlotFields.reset with input := 23, avg := 16, kind := .pwm, channel := 3, decimation := 16, period := 7 }
     f.input.toNat ≤ 23 ∧ f.avg.toNat ∈ [1, 2, 4, 8, 16] ∧ f.toRecord = some
       { SlotRecord.reset with input := 23, avg := .x16, trigger := .pwm 3 16 }) ∧
      let f := { WatchFields.reset with
        kind := .diffAbove, srcA := 31, srcB := 30, bPresent := true, capPresent := true, capChannel := 3, capValue := 9
        snapPresent := true, snapSlot := 31, t2 := 5 }
      f.srcA.toNat ≤ 31 ∧ f.srcB.toNat ≤ 31 ∧ f.capChannel.toNat ≤ 3 ∧ f.snapSlot.toNat ≤ 31 ∧ f.toRecord = some
        { WatchRecord.reset with kind := .diffAbove 30, srcA := 31, cap := some (3, 9), snapshot := some 31 } := by decide

/-- A PERIODIC record without phase is committed: the slot is requested at once and its countdown runs. -/
theorem test_commitSlot_witness :
    let s := (staged s0 (.slot 2)).setStaging { (staged s0 (.slot 2)).staging with
      slot := { SlotFields.reset with enabled := true, kind := .periodic, period := 1 } }
    Ready s ∧ s.staging.state = .loaded ∧ s.staging.target = .slot 2 ∧ s.mode.mode = .active ∧
      (∀ r, (s.rule r).pinned = true → (s.rule r).srcA ≠ 2 ∧ (s.rule r).kind ≠ .diffAbove 2) ∧ s.detail = .none ∧
        gives (exec (.commit 0) s) (fun t => t.port.cmdResult == 0 && t.countdown 2 == ⟨.running, 10⟩ &&
          t.staging.slotSnap.job == .active) = true := by decide

theorem test_commitWatch_witness :
    let s := (staged s0 (.watch 15)).setStaging { (staged s0 (.watch 15)).staging with
      watch := { WatchFields.reset with t1 := 1 } }
    Ready s ∧ s.staging.state = .loaded ∧ s.staging.target = .watch 15 ∧ s.mode.mode = .active ∧
      (s.ruleRt 15).state.active = false ∧ (s.rule 15).pinned = false ∧ s.detail = .none ∧
        gives (exec (.commit 0) s) (fun t => (t.rule 15).t1 == 1 && (t.ruleRt 15).state == .disarmed) = true := by decide

/-! ## Requests, the queue and time -/

/-- The hypotheses of RequestTaken and GrantTaken. -/
theorem test_requests_witness :
    let s := s0.setSublists [entryOf 31 .urgent none] [entryOf 0 .normal none]
    (∃ e ∈ entries s, e.slot = 31) ∧ (∀ e ∈ entries s, e.slot ≠ 1) ∧ s.engine.state = .idle ∧
      (s.grant.engine.state.code == 1) = true ∧ (s.request .pin 31).events.latches = 0x10 := by decide

theorem test_trigger :
    let s := s0.setRecord 31 (slotOf .hostOnly)
    gives (exec (.trigger 31) s) (fun t => t.port.cmdResult == 0 && t.jobStatus 31 == .active) = true ∧
      gives (exec (.trigger 32) s) (fun t => t.port.cmdResult == 0x11) = true ∧
        gives (exec (.trigger 30) s) (fun t => t.port.cmdResult == 0x12) = true ∧
          gives (exec (.trigger 31) (inGuard s)) (fun t => t.port.cmdResult == 0x1D) = true ∧
            gives (exec (.trigger 31) (s.setSublists [] [entryOf 31 .normal none])) (fun t => t.port.cmdResult == 1) = true := by
  decide

theorem test_clearSlotStats :
    gives (exec (.clearSlotStats 31) (s0.setSlotRt 31 ⟨255, .stored⟩)) (fun t => t.slotRt 31 == ⟨0, .stored⟩) = true ∧
      gives (exec (.clearSlotStats 32) s0) (fun t => t.port.cmdResult == 0x11) = true := by decide

theorem test_queueSel_reads :
    Reg.value .queueSel s0 = 0x0000 ∧ Reg.value .queueSel (s0.writeQueueSel 0x011F) = 0x011F ∧
      Reg.value .queueSel (s0.writeQueueSel 0x0003) = 0x0003 := by decide

theorem test_queueEntryRead :
    gives (exec .queueEntryRead s0) (fun t => t.port.response.data == 0x8000) = true ∧
      gives (exec .queueEntryRead (s0.setSublists [entryOf 31 .urgent none] []))
        (fun t => t.port.response.data == 0x013F && Reg.value .queueEnqLo t == 7) = true ∧
        gives (exec .queueEntryRead ((s0.setSublists [] [entryOf 0 .normal (some ⟨15, 61425, true, 9⟩)]).writeQueueSel 0x100))
          (fun t => t.port.response.data == 0x7F00 && Reg.value .queueSum t == 61425) = true := by decide

theorem test_tick :
    gives (exec (.timeCounterTick 3) (((s0.setCountdown 0 ⟨.running, 10⟩).setSwitch 3 (switchIn .on (some ⟨.refill, 2⟩))).setChannel
        1 (runningAt 0)))
      (fun t => t.now == 3 && t.countdown 0 == ⟨.running, 7⟩ && (t.switch 3).timer == some ⟨.refill, 0⟩ &&
        (t.channel 1).position == 39 && (t.channel 1).owed == 21) = true ∧
      gives (exec (.timeCounterTick 4294967296) s0) (fun t => t.now == 0) = true ∧
        gives (exec (.timeCounterTick 3) (inReset s0)) (fun t => t.now == 0) = true := by decide

theorem test_timeLoRead :
    gives (exec .timeLoRead (s0.tick 0x12345)) (fun t => t.port.response.data == 0x2345 && Reg.value .timeHi t == 1) = true := by
  decide

/-- The hypotheses of PeriodicExpiry: the factor 64 of a guard slot in GUARD, and a countdown that has time left. -/
theorem test_periodicExpiry :
    let s := (s0.setRecord 31 { slotOf (.periodic 65535 0) with guard := true }).setCountdown 31 ⟨.running, 0⟩
    gives (exec (.periodicExpiry 31) ((inGuard s).setMode ⟨.guard, 3, .none⟩))
        (fun t => t.countdown 31 == ⟨.running, 41942400⟩ && t.jobStatus 31 == .active) = true ∧
      gives (exec (.periodicExpiry 31) (s.setCountdown 31 ⟨.running, 1⟩)) (fun t => t.countdown 31 == ⟨.running, 1⟩) = true := by
  decide

/-- The hypotheses of TrgEdge: an edge, a level already taken, a reset in progress. -/
theorem test_trgEdge :
    let s := s0.setRecord 31 (slotOf (.pin .trg1 .rising))
    gives (exec (.trgEdge .trg1 .high) s) (fun t => t.jobStatus 31 == .active && t.triggers.pinRef.trg1 == .high) = true ∧
      gives (exec (.trgEdge .trg1 .low) s) (fun t => t.jobStatus 31 == .none) = true ∧
        gives (exec (.trgEdge .trg1 .high) (inReset s))
          (fun t => t.triggers.pinRef.trg1 == .low && t.triggers.pinLevel.trg1 == .high) = true := by decide

/-! ## The conversion engine -/

/-- The four ends of a sample at its nominal length, 4 µs for code 0 at 12 bits. -/
theorem test_sampleCompletion :
    gives (exec (.sampleCompletion 5 300) (busyFor 4 s0 (jobOf 0))) (fun t => (t.result 0).value == 200 &&
        (t.result 0).samples == 2 && (t.slotRt 0).outcome == .stored && t.engine.state == .idle) = true ∧
      gives (exec (.sampleCompletion 5 300) (busyFor 4 s0 { jobOf 0 with withdrawn := true }))
        (fun t => (t.slotRt 0).outcome == .stale && (t.result 0).state == .absent) = true ∧
        gives (exec (.sampleCompletion 5 0) (busyFor 4 (s0.setSublists [entryOf 1 .urgent none] []) { jobOf 0 with avg := .x4 }))
          (fun t => t.jobStatus 1 == .active && t.queueStatus 0 == .suspended) = true ∧
          gives (exec (.sampleCompletion 5 4095) (busyFor 4 s0 { jobOf 0 with avg := .x4 }))
            (fun t => match t.engine.state with
              | .busy j => j.done == 2 && j.sum == 4195 && j.clipped && j.sampleId == 0 && j.sampleStart == 4
              | .idle | .faulted => false) = true := by decide

/-- Completions that are discarded: of another sample, before the sample's length, past its deadline; one at the deadline is
still taken (R70). -/
theorem test_sampleCompletion_time :
    gives (exec (.sampleCompletion 6 300) (busyFor 4 s0 (jobOf 0))) (· == busyFor 4 s0 (jobOf 0)) = true ∧
      gives (exec (.sampleCompletion 5 300) (busyFor 3 s0 (jobOf 0))) (· == busyFor 3 s0 (jobOf 0)) = true ∧
        gives (exec (.sampleCompletion 5 300) (busyFor 25 s0 (jobOf 0))) (· == busyFor 25 s0 (jobOf 0)) = true ∧
          gives (exec (.sampleCompletion 5 300) (busyFor 24 s0 (jobOf 0))) (fun t => (t.slotRt 0).outcome == .stored) = true := by
  decide

theorem test_tenBitCode :
    gives (exec (.sampleCompletion 5 0x7FF) (busyFor 3 s0 { jobOf 0 with res := .bits10, avg := .x16 }))
      (fun t => match t.engine.state with
        | .busy j => j.sum == 4192 && j.clipped
        | .idle | .faulted => false) = true := by decide

/-- The hypotheses of DeadlineExpiry: the deadline of code 0 at 12 bits falls 24 µs after the sample start. -/
theorem test_deadlineExpiry :
    gives (exec .deadlineExpiry ((busy s0 (jobOf 0)).tick 24)) (fun t => t.engine.state == .faulted &&
        t.engine.faultRecord == some ⟨0, 3, 2, false, 24⟩ && (t.result 0).state == .invalid && t.events.latches == 0x80) = true ∧
      gives (exec .deadlineExpiry ((busy s0 (jobOf 0)).tick 23)) (fun t => t.engine.state == .busy (jobOf 0)) = true := by decide

theorem test_abort :
    gives (exec (.abort 0) (busy s0 (jobOf 31))) (fun t => t.engine.state == .idle && (t.slotRt 31).outcome == .aborted) = true ∧
      gives (exec (.abort 0) (s0.setEngine .faulted)) (fun t => t.port.cmdResult == 0x1B) = true := by decide

theorem test_restartConverter :
    gives (exec (.restartConverter 0) (s0.setEngine .faulted)) (fun t => t.engine.state == .idle && t.port.cmdResult == 0) = true ∧
      gives (exec (.restartConverter 0) (busy s0 (jobOf 0))) (fun t => t.port.cmdResult == 0x1C) = true := by decide

theorem test_engineReads :
    gives (exec .engineJobRead (busy s0 { jobOf 31 with done := 15, avg := .x16, cls := .urgent, withdrawn := true }))
        (fun t => t.port.response.data == 0xCFFD) = true ∧
      gives (exec .engineJobRead (s0.setEngine .faulted)) (fun t => t.port.response.data == 2) = true ∧
        gives (exec .faultInfoRead (s0.enterFaulted ⟨31, 23, 16, true, 5⟩))
          (fun t => t.port.response.data == 0xFDFF && Reg.value .faultTimeLo t == 5) = true ∧
          gives (exec .faultInfoRead s0) (fun t => t.port.response.data == 0) = true := by decide

/-! ## Results and the capture FIFO -/

/-- A delivery of a captured leader: the record, the entry and the follower's request. -/
theorem test_delivery :
    let s := (s0.setRecord 0 { slotOf .hostOnly with capture := true }).setRecord 31 (slotOf (.follow 0))
    let t := s.deliver ⟨0, .valid, 700, 1, false, 9⟩
    (t.result 0).seq = 1 ∧ t.fifo.entries.length = 1 ∧ t.queueStatus 31 = .notQueued ∧ t.jobStatus 31 = .active := by decide

/-- The hypotheses of CapturePush on both sides of a full FIFO, its balance where the addition just reaches 255. -/
theorem test_capturePush_witness :
    (fullFifo .keepNewest).entries.length = 64 ∧ (fullFifo .keepNewest).entries = captured (some 3) :: List.replicate 63 (captured none) ∧
      ((s0.setFifo (fullFifo .keepOldest)).push (captured none)).fifo.pendingLoss = 1 ∧
        ((s0.setFifo (fullFifo .keepNewest)).push (captured none)).fifo.entries.getLast? = some (captured (some 4)) ∧
          (let dropping := { fullFifo .keepOldest with pendingLoss := 254 }
           lossesHeld (s0.setFifo dropping |>.push (captured none)).fifo = lossesHeld dropping + 1) ∧
            let removing := { fullFifo .keepNewest with pendingLoss := 251 }
            removing.pendingLoss + 1 + 3 ≤ 255 ∧
              lossesHeld (s0.setFifo removing |>.push (captured none)).fifo = lossesHeld removing + 1 := by decide

theorem test_fifoLaw_witness : FifoLaw (fullFifo .keepNewest) := ⟨by decide, by decide, by decide, by decide, by decide⟩

theorem test_capturePop :
    gives (exec (.capturePop 0) (s0.setFifo (fullFifo .keepOldest))) (fun t => t.fifo.entries.length == 63 &&
        Reg.value .capSlot t == 0x41 && Reg.value .capGap t == 0x8003) = true ∧
      gives (exec (.capturePop 0) s0) (fun t => t.port.cmdResult == 3 && Reg.value .capSlot t == 0x8000) = true := by decide

theorem test_captureFlush :
    gives (exec (.captureFlush 0) (s0.setFifo (fullFifo .keepOldest))) (fun t => t.fifo.entries.isEmpty) = true := by decide

theorem test_capCtrlWrite :
    gives (exec (.capCtrlWrite 0x81) s0) (fun t => t.fifo.policy == .keepNewest && t.fifo.watermark == 64) = true ∧
      gives (exec (.capCtrlWrite 0x82) s0) (fun t => t.fifo.watermark == 32) = true := by decide

theorem test_resultSelWrite :
    gives (exec (.resultSelWrite 31) (s0.setResult 31 (validResult 4095))) (fun t => Reg.value .resultValue t == 4095) = true ∧
      gives (exec (.resultSelWrite 32) s0) (fun t => t.results.sel == 0) = true := by decide

theorem test_triplogSelWrite :
    gives (exec (.triplogSelWrite 15) s0) (fun t => t.tripLog.sel == 15 && Reg.value .triplogEntry t == 0x8000) = true ∧
      gives (exec (.triplogSelWrite 16) s0) (fun t => t.tripLog.sel == 0) = true := by decide

/-! ## Watch rules -/

/-- Verdicts at the edges of the bands: 1000 is neutral for ABOVE 1000 with H 10, 989 the first releasing value. -/
theorem test_verdicts_witness :
    let s := ruled s0 0 aboveRule .clear
    s.verdict 0 (validResult 1001) = .qualifying ∧ s.verdict 0 (validResult 1000) = .neutral ∧
      s.verdict 0 (validResult 990) = .neutral ∧ s.verdict 0 (validResult 989) = .releasing ∧
        s.verdict 0 { validResult 0 with state := .invalid } = .skipped ∧
          (ruled s0 0 { aboveRule with kind := .diffAbove 31 } .clear).verdict 0 (validResult 1001) = .skipped := by decide

/-- The hypothesis of RuleMoves, and a trip at the confirm count with its claims. -/
theorem test_trip :
    let s := ruled s0 0 { aboveRule with confirm := 2 } .clear
    let p := s.judge 0 (validResult 1001)
    let t := p.judge 0 (validResult 1001)
    p.ruleRt 0 = { runtimeIn .pending with run := 1 } ∧ (t.ruleRt 0).state = .tripped ∧ (t.switch 0).holds = 1 ∧
      (t.channel 1).forces = 1 ∧ (t.channel 2).caps = [(0, 5)] ∧ t.events.fault = true ∧ t.events.latches = 1 ∧
        t.tripLog.entries.length = 1 := by decide

theorem test_ruleMoves_witness : RunLaw { aboveRule with confirm := 2 } { runtimeIn .pending with run := 1 } :=
  ⟨⟨by decide, by decide⟩, by decide, by decide⟩

/-- The hypotheses of TripActions' log: 14, 15 and 16 entries. -/
theorem test_tripLog_witness :
    let s := s0.setTripLog { TripLog.reset with entries := List.replicate 15 (tripped 0) }
    let t := s.logTrip (tripped 0)
    s.events.latches = 0 ∧ t.tripLog.entries.length = 16 ∧ t.events.latches = 0x800 ∧
      (t.logTrip (tripped 0)).tripLog.entries = List.replicate 15 (tripped 0) ++ [tripped 1] := by decide

theorem test_ack :
    let r := { aboveRule with latching := true }
    gives (exec (.ack 15) (ruled s0 15 r .latched)) (fun t => (t.ruleRt 15).state == .clear && t.events.latches == 2) = true ∧
      gives (exec (.ack 15) (ruled s0 15 r .tripped)) (fun t => (t.ruleRt 15).ackAhead) = true ∧
        gives (exec (.ack 15) (ruled s0 15 r .clear)) (fun t => t.port.cmdResult == 0x1A) = true ∧
          gives (exec (.ack 16) s0) (fun t => t.port.cmdResult == 0x11) = true := by decide

theorem test_arm :
    gives (exec (.arm 15) s0) (fun t => (t.ruleRt 15).state == .clear) = true ∧
      gives (exec (.arm 15) (ruled s0 15 aboveRule .pending)) (fun t => t.port.cmdResult == 2) = true := by decide

theorem test_disarm :
    gives (exec (.disarm 0) (ruled s0 0 aboveRule .tripped)) (fun t => (t.ruleRt 0).state == .disarmed && t.events.latches == 0) =
        true ∧
      gives (exec (.disarm 0) (ruled s0 0 { aboveRule with pinned := true } .clear)) (fun t => t.port.cmdResult == 0x16) = true := by
  decide

theorem test_triplogClear :
    gives (exec (.triplogClear 0) (s0.setTripLog { TripLog.reset with entries := [tripped 0] }))
      (fun t => t.tripLog.entries.isEmpty) = true := by decide

/-! ## Load switches -/

theorem test_swOn :
    gives (exec (.swOn 3) s0) (fun t => t.switch 3 == switchIn .softstart (some ⟨.softStart, 1000⟩)) = true ∧
      gives (exec (.swOn 3) (s0.setSwitch 3 { Switch.reset with holds := 1 })) (fun t => (t.switch 3).state == .held) = true ∧
        gives (exec (.swOn 3) (s0.setSwitch 3 (switchIn .lockout none))) (fun t => t.port.cmdResult == 0x17) = true ∧
          gives (exec (.swOn 4) s0) (fun t => t.port.cmdResult == 0x11) = true := by decide

theorem test_swOff :
    gives (exec (.swOff 3) (s0.setSwitch 3 (switchIn .on (some ⟨.refill, 1⟩)))) (fun t => t.switch 3 == Switch.reset) = true ∧
      gives (exec (.swOff 3) (s0.setSwitch 3 (switchIn .lockout none)))
        (fun t => (t.switch 3).state == .lockout && !(t.switch 3).demand) = true := by decide

theorem test_swClear :
    gives (exec (.swClear 3) (s0.setSwitch 3 { switchIn .lockout none with retries := 0 })) (fun t => t.switch 3 == Switch.reset) =
        true ∧
      gives (exec (.swClear 3) s0) (fun t => t.port.cmdResult == 0x18) = true := by decide

theorem test_switchTimers :
    gives (exec (.softStartExpiry 3) (s0.setSwitch 3 (switchIn .softstart (some ⟨.softStart, 0⟩))))
        (fun t => t.switch 3 == switchIn .on (some ⟨.refill, 1000000⟩)) = true ∧
      gives (exec (.refillExpiry 3) (s0.setSwitch 3 { switchIn .on (some ⟨.refill, 0⟩) with retries := 0 }))
        (fun t => (t.switch 3).retries == 3) = true ∧
        gives (exec (.retryExpiry 3) (s0.setSwitch 3 (switchIn .ilimWait (some ⟨.retry, 0⟩))))
          (fun t => (t.switch 3).state == .softstart) = true ∧
          gives (exec (.retryExpiry 3) (s0.setSwitch 3 (switchIn .ilimWait (some ⟨.retry, 1⟩))))
            (fun t => (t.switch 3).state == .ilimWait) = true := by decide

theorem test_currentLimit :
    gives (exec (.currentLimit 3) (s0.setSwitch 3 (switchIn .on (some ⟨.refill, 1⟩))))
        (fun t => (t.switch 3).state == .ilimWait && (t.switch 3).retries == 2 && t.events.latches == 4) = true ∧
      gives (exec (.currentLimit 3) (s0.setSwitch 3 { switchIn .softstart none with retries := 0 }))
        (fun t => (t.switch 3).state == .lockout && t.events.latches == 12) = true ∧
        gives (exec (.currentLimit 3) s0) (fun t => t == s0) = true := by decide

theorem test_swWrites :
    gives (exec (.swCfgWrite 3 0x006D) s0) (fun t => (t.switch 3).cfg ==
        { softStart := 1, retryDelay := 100, retryMax := 3, restore := .auto, lockoutFault := true }) = true ∧
      gives (exec (.swTripsWrite 3 0xFFFF) (s0.setSwitch 3 { Switch.reset with trips := 255 }))
        (fun t => (t.switch 3).trips == 0 && t.port.response.addr == 0x6F) = true := by decide

/-! ## PWM channels -/

/-- The hypotheses of PwmEvents: each point reached to the unit, and one still a unit away. -/
theorem test_pwmEvents :
    gives (exec (.pwmDutyEnd 3) (s0.setChannel 3 { runningAt 39 with owed := 1 })) (fun t => (t.channel 3).position == 40) = true ∧
      gives (exec (.pwmDutyEnd 3) (s0.setChannel 3 (runningAt 39))) (fun t => (t.channel 3).position == 39) = true ∧
        gives (exec (.pwmTriggerPoint 3) (s0.setChannel 3 { runningAt 59 with owed := 5 }))
          (fun t => (t.channel 3).position == 64 && (t.channel 3).owed == 0 && (t.channel 3).trigDone) = true ∧
          gives (exec (.pwmPeriodStart 3) (s0.setChannel 3 { runningAt 99 with trigDone := true, caps := [(0, 30)], owed := 1 }))
            (fun t => (t.channel 3).position == 0 && (t.channel 3).duty == 30) = true ∧
            gives (exec (.pwmPeriodStart 3) (s0.setChannel 3 { runningAt 39 with owed := 90 })) (fun t => (t.channel 3).position == 39) =
                true ∧
              gives (exec (.pwmPeriodStart 3) s0) (fun t => t == s0) = true := by decide

/-- No time is lost in a period of 50 units: its three events come in the third microsecond, and 10 units of it belong to the
next period. -/
theorem test_pwmPeriod_keeps_time :
    let x := { runningAt 0 with cfg := { (runningAt 0).cfg with period := 50, duty := 30, trig := 15 }, period := 50, duty := 30, trig := 15 }
    let s := (s0.setChannel 3 x).tick 3
    (s.channel 3).position = 14 ∧ (((s.pointReached 3).dutyEnd 3).periodEnd 3).channel 3 = { x with position := 10 } := by decide

theorem test_pwmTriggerPoint_counted :
    gives (exec (.pwmTriggerPoint 3) ((s0.setChannel 3 { runningAt 40 with owed := 20 }).setRecord 31 (slotOf (.pwm 3 1))))
      (fun t => t.jobStatus 31 == .active && t.decim 31 == 0) = true := by decide

/-- The levels of a pin (R149, R153). -/
theorem test_pwmPin :
    (runningAt 39).pin = .high ∧ (runningAt 40).pin = .low ∧
      { runningAt 40 with cfg := { (runningAt 40).cfg with polarity := .activeLow } }.pin = .high ∧ Channel.reset.pin = .low := by
  decide

theorem test_pwmWrites :
    gives (exec (.pwmCtrlWrite 3 3) s0) (fun t => (t.channel 3).running && (t.channel 3).pin == .high) = true ∧
      gives (exec (.pwmCtrlWrite 3 1) (inGuard s0)) (fun t => !(t.channel 3).running && (t.channel 3).cfg.enable) = true ∧
        gives (exec (.pwmConfigWrite 3 .period 1) s0) (fun t => (t.channel 3).cfg.period == 2) = true ∧
          gives (exec (.pwmConfigWrite 3 .duty 9) s0) (fun t => (t.channel 3).cfg.duty == 9 && (t.channel 3).duty == 0) = true := by
  decide

/-! ## Event unit and GUARD -/

theorem test_eventWrites :
    gives (exec (.evtLatchWrite 0xF001) (s0.setEvents { EventUnit.reset with latches := 3 })) (fun t => t.events.latches == 2) =
        true ∧
      gives (exec (.evtEnableWrite 1) (s0.setEvents { EventUnit.reset with latches := 1, irqMode := .pulse }))
        (fun t => t.events.pulse == some 2 && t.events.irq) = true ∧
        gives (exec (.irqCtrlWrite 2) s0) (fun t => t.events.irqPolarity == .activeHigh && t.irqPin == .low) = true := by decide

theorem test_irqPulseExpiry :
    gives (exec .irqPulseExpiry (s0.setEvents { EventUnit.reset with pulse := some 0 })) (fun t => t.events.pulse == none) = true ∧
      gives (exec .irqPulseExpiry (s0.setEvents { EventUnit.reset with pulse := some 1 })) (fun t => t.events.pulse == some 1) =
        true := by decide

/-- The hypotheses of GuardEnter: a refusal of each kind, and an entry. -/
theorem test_guardEnter :
    let s := s0.setRecord 0 guardSlot
    gives (exec (.guardEnter 0) (inGuard s)) (fun t => t.port.cmdResult == 0x1D) = true ∧
      gives (exec (.guardEnter 0) s0) (fun t => t.port.cmdResult == 0x1F) = true ∧
        gives (exec (.guardEnter 0) (ruled s 0 { aboveRule with srcA := 31, pinned := true } .clear))
          (fun t => t.port.cmdResult == 0x16) = true ∧
          gives (exec (.guardEnter 0) ((busy s (jobOf 31)).setChannel 0 (runningAt 5)))
            (fun t => t.mode.mode == .guard && (t.slotRt 31).outcome == .aborted && !(t.channel 0).running) = true := by decide

theorem test_guardExit :
    gives (exec (.guardExit 0) (inGuard (s0.setCountdown 31 ⟨.frozen, 4⟩))) (fun t => t.mode.mode == .active &&
        t.mode.lastExit == .host && t.countdown 31 == ⟨.running, 4⟩ && t.events.latches == 0x400) = true ∧
      gives (exec (.guardExit 0) s0) (fun t => t.port.cmdResult == 0x1E) = true := by decide

/-- A countdown that had run out while FROZEN is taken at the exit: requested, and reloaded with its period. -/
theorem test_guardExit_released :
    let s := (inGuard (s0.setRecord 31 (slotOf (.periodic 2 0)))).setCountdown 31 ⟨.frozen, 0⟩
    gives (exec (.guardExit 0) s) (fun t => t.countdown 31 == ⟨.running, 20⟩ && t.jobStatus 31 == .active) = true := by decide

/-- The live registers in a state whose FAULT follows its condition. -/
theorem test_statusRegisters_witness :
    let s := ((ruled s0 15 aboveRule .tripped).setSwitch 3 { switchIn .lockout none with
      cfg := { Switch.reset.cfg with lockoutFault := true } }).faultUpdate
    Reg.value .liveRules s = 0x8000 ∧ Reg.value .faultRules s = 0x8000 ∧ Reg.value .liveSwitches s = 0x0A00 ∧
      Reg.value .liveCore s = 0x0208 := by decide

/-! ## The words of 11.6, at the ends of the ranges that the statements assume -/

theorem test_stagingWords :
    let s := (staged s0 (.watch 15)).setStaging { (staged s0 (.watch 15)).staging with
      slotSnap := ⟨255, .aborted, .suspended, .withdrawn⟩
      watchSnap := ⟨.latched, 15, true, some 4095, 255, some 0x12345678⟩ }
    Reg.value .stgStatus s = 0x0D3F ∧ Reg.value .stgSrt s = 0x54FF ∧ Reg.value .wrtA s = 0x03FD ∧
      Reg.value .wrtPrev s = 0x0FFF ∧ Reg.value .wrtTrips s = 0x00FF ∧ Reg.value .wrtTimeHi s = 0x1234 := by decide

theorem test_storeWords :
    let entry : TripEntry := { tripped 255 with rule := 15, aSlot := 31, aInvalid := true, b := some (4095, true) }
    let s := (s0.setFifo { fullFifo .keepNewest with
      pendingLoss := 255, watermark := 64, readout := some { captured (some 255) with seq := 255, slot := 31, clipped := true } }).setTripLog
        { TripLog.reset with entries := List.replicate 15 (tripped 0) ++ [tripped 1], readout := some entry }
    let r := { s with results := { s.results with readoutSlot := 31, readout := ⟨.invalid, 0, 255, 5, 16, true⟩ } }
    (Reg.value .capStatus s = 0x7FC0 ∧ Reg.value .capCtrl s = 0x0081 ∧ Reg.value .capSlot s = 0x1FFF ∧
      Reg.value .capValue s = 0x2003 ∧ Reg.value .capGap s = 0x80FF) ∧
      (Reg.value .triplogStatus s = 0x0030 ∧ Reg.value .triplogEntry s = 0x0FFF ∧ Reg.value .triplogBval s = 0x0FFF ∧
        Reg.value .triplogOvf s = 0x00FF) ∧ Reg.value .resultState r = 0x1FC2 := by decide

theorem test_outputWords :
    let s := (s0.setSwitch 3 { switchIn .held none with holds := 1, retries := 7, trips := 255 }).setChannel 3
      { runningAt 0 with caps := List.replicate 16 (15, 9), forces := 1 }
    Reg.value (.swState 3) s = 0x00FB ∧ Reg.value (.swTrips 3) s = 0x00FF ∧ Reg.value (.swCfg 3) s = 0x640E ∧
      Reg.value (.pwmState 3) s = 0x0043 ∧ Reg.value (.pwmCapset 3) s = 0x8000 ∧ Reg.value (.pwmCapmin 3) s = 9 := by decide

/-! ## Steps -/

/-- Step takes the command in front and leaves the rest (95). -/
theorem test_step :
    gives (step (s0.withPending [.csnRise, .resetEnd])) (fun t => t.pending == [.resetEnd]) = true ∧ gives (step s0) (· == s0) = true := by
  decide

/-! ## States that keep the laws, and a command that runs there -/

/-- A job of slot 0 by its reset record. -/
def firstJob : Job := { jobOf 0 with input := 0, avg := .x1, done := 0, sum := 0 }

theorem test_queueLaw_witness :
    let s := busy (s0.setSublists [] [entryOf 31 .normal none]) firstJob
    QueueLaw s ∧ ∃ t, step (s.withPending [.abort 0]) = .next t :=
  ⟨⟨by decide, by decide, ⟨by decide, by decide⟩, fun h => absurd h (by decide)⟩, _, rfl⟩

theorem test_tableLaw_witness : TableLaw (inGuard s0) ∧ ∃ t, step ((inGuard s0).withPending [.guardExit 0]) = .next t :=
  ⟨⟨fun n => by rw [show ((inGuard s0).record n).trigger = .hostOnly by revert n; decide]; trivial, by decide,
    by unfold LineLaw; decide⟩, _, rfl⟩

theorem test_triggerLaw_witness :
    TriggerLaw (inGuard s0) ∧ ∃ t, step ((inGuard s0).withPending [.periodicExpiry 31]) = .next t := by
  refine ⟨fun n => ⟨?_, ?_⟩, _, rfl⟩
  · unfold CountdownLaw
    rw [show (inGuard s0).countdown n = ⟨.stopped, 0⟩ by revert n; decide]
    exact ⟨by decide, rfl⟩
  · unfold DecimLaw
    rw [show ((inGuard s0).record n).trigger = .hostOnly by revert n; decide]
    revert n
    decide

theorem test_ruleLaw_witness : RuleLaw (inGuard s0) ∧ ∃ t, step ((inGuard s0).withPending [.ack 15]) = .next t := by
  have quiet : ∀ n, ((inGuard s0).ruleRt n).state = .disarmed := by decide
  refine ⟨⟨fun n => ?_, by unfold HoldLaw; decide, by unfold ForceLaw; decide, fun c => ?_⟩, _, rfl⟩
  · rw [show (inGuard s0).ruleRt n = RuleRuntime.reset by revert n; decide]
    exact ⟨rfl, fun h => absurd h (by decide), by decide⟩
  · rw [show ((inGuard s0).channel c).caps = [] by revert c; decide]
    exact ⟨by decide, fun n v => ⟨fun h => absurd h (by simp), fun h => absurd h.1 (by rw [quiet n]; decide)⟩⟩

/-- A pinned rule on an ENABLED guard slot. -/
theorem test_pinnedLaw_witness :
    let s := ruled (s0.setRecord 0 guardSlot) 15 { aboveRule with pinned := true } .clear
    PinnedLaw s ∧ ∃ t, step (s.withPending [.disarm 15]) = .next t := by
  refine ⟨fun n h => ?_, _, rfl⟩
  obtain rfl : n = 15 := by
    revert n
    decide
  exact ⟨by decide, by decide, fun b h => by cases h⟩

theorem test_faultLaw_witness :
    let s := (ruled s0 15 aboveRule .tripped).faultUpdate
    (FaultLaw s ∧ s.events.fault = true) ∧ ∃ t, step (s.withPending [.disarm 15]) = .next t :=
  ⟨⟨by unfold FaultLaw; decide, by decide⟩, _, rfl⟩

theorem test_switchLaw_witness :
    let s := s0.setSwitch 0 (switchIn .on (some ⟨.refill, 1⟩))
    (∀ n, SwitchLaw (s.switch n)) ∧ ∃ t, step (s.withPending [.currentLimit 0]) = .next t := by
  refine ⟨fun n => ?_, _, rfl⟩
  match n with
  | 0 => exact ⟨by decide, by decide, by decide, by decide, by decide, by decide⟩
  | 1 | 2 | 3 => exact ⟨by decide, by decide, by decide, by decide, rfl⟩

theorem test_pwmLaw_witness :
    let s := s0.setChannel 3 (runningAt 40)
    PwmLaw s ∧ ∃ t, step (s.withPending [.pwmTriggerPoint 3]) = .next t := by
  refine ⟨fun c => ?_, _, rfl⟩
  have all : ∀ k, (s0.setChannel 3 (runningAt 40)).channel k = Channel.reset ∨
      (s0.setChannel 3 (runningAt 40)).channel k = runningAt 40 := by decide
  rcases all c with h | h <;> rw [h] <;>
    exact ⟨⟨by decide, by decide, by decide, fun _ h => absurd h (by simp [Channel.reset, runningAt]), by decide, by decide⟩, by decide⟩

/-- The hypotheses of StoreLawsKept: a full FIFO, a log of one entry, an INVALID result and the law of the queue. -/
theorem test_storeLaws_witness :
    let s := ((s0.setFifo (fullFifo .keepNewest)).setTripLog { TripLog.reset with entries := [tripped 0] }).setResult 31
      { ResultRecord.reset with state := .invalid, samples := 15 }
    (FifoLaw s.fifo ∧ TripLogLaw s.tripLog) ∧ (QueueLaw s ∧ ∀ n, ResultLaw (s.result n)) ∧
      ∃ t, step (s.withPending [.capturePop 0]) = .next t := by
  refine ⟨⟨test_fifoLaw_witness, by decide, fun i e h => ?_⟩,
    ⟨⟨by decide, by decide, ⟨rfl, rfl⟩, fun h => absurd h (by decide)⟩, by unfold ResultLaw; decide⟩, _, rfl⟩
  match i, h with
  | 0, h => cases h; decide

/-- The hypotheses of RowFrames. -/
theorem test_rowFrames_witness :
    commandBytes (.commit 7) = some (Command.commit.code, 7) ∧ (∃ t, exec (.commit 7) s0 = .next t) ∧
      writeBytes (.swTripsWrite 3 5) = some (regAddr (.swTrips 3), 5) ∧ ∃ t, exec (.swTripsWrite 3 5) s0 = .next t :=
  ⟨rfl, ⟨_, rfl⟩, rfl, _, rfl⟩

end Sys2Proof.Tests
end

section
/-! SUPPORT. Paths of leader relations (R13, R14): how `upstream` unfolds, grows with its fuel, and follows the relations. -/

namespace Sys2Proof.Machine

open Sys2Proof.Safety

variable {leader other : SlotIx → Option SlotIx} {fuel m : Nat} {k n a b : SlotIx}

@[simp] theorem upstream_zero : upstream leader 0 k = [] := rfl

theorem upstream_succ_some (h : leader k = some a) :
    upstream leader (fuel + 1) k = k :: upstream leader fuel a := by simp [upstream, h]

theorem upstream_succ_none (h : leader k = none) : upstream leader (fuel + 1) k = [k] := by simp [upstream, h]

/-- A path of less fuel is the beginning of one of more. -/
theorem upstream_take (h : m ≤ fuel) : (upstream leader fuel k).take m = upstream leader m k := by
  induction m generalizing fuel k with
  | zero => simp
  | succ m ih =>
    obtain ⟨fuel, rfl⟩ : ∃ f, fuel = f + 1 := ⟨fuel - 1, by omega⟩
    cases hk : leader k with
    | some l => rw [upstream_succ_some hk, upstream_succ_some hk, List.take_succ_cons, ih (by omega)]
    | none => simp [upstream_succ_none hk]

theorem length_upstream_mono (h : m ≤ fuel) : (upstream leader m k).length ≤ (upstream leader fuel k).length := by
  rw [← upstream_take h, List.length_take]
  exact min_le_right _ _

/-- A path that ends before its fuel does not grow with more. -/
theorem upstream_eq_of_length_le (hm : m ≤ fuel) (h : (upstream leader fuel k).length ≤ m) :
    upstream leader m k = upstream leader fuel k := by
  rw [← upstream_take hm, List.take_of_length_le h]

/-- From a slot on a path onwards, the path is that slot's own. -/
theorem drop_idxOf_upstream (h : n ∈ upstream leader fuel k) :
    (upstream leader fuel k).drop ((upstream leader fuel k).idxOf n) =
      upstream leader (fuel - (upstream leader fuel k).idxOf n) n := by
  induction fuel generalizing k with
  | zero => simp at h
  | succ fuel ih =>
    by_cases hn : k = n
    · subst hn
      cases hk : leader k with
      | some l => simp [upstream_succ_some hk]
      | none => simp [upstream_succ_none hk]
    · cases hk : leader k with
      | none => simp [upstream_succ_none hk, Ne.symm hn] at h
      | some l =>
        rw [upstream_succ_some hk] at h ⊢
        rw [List.idxOf_cons_ne _ hn, List.drop_succ_cons, Nat.succ_eq_add_one, Nat.add_sub_add_right]
        exact ih ((List.mem_cons.1 h).resolve_left (Ne.symm hn))

/-- The slots of a path that reaches `n`: those before `n`, and those of `n`'s own path. -/
theorem length_upstream_of_mem (h : n ∈ upstream leader fuel k) :
    (upstream leader fuel k).length = (upstream leader fuel k).idxOf n +
      (upstream leader (fuel - (upstream leader fuel k).idxOf n) n).length := by
  have hd := congrArg List.length (drop_idxOf_upstream h)
  have := List.idxOf_lt_length_of_mem h
  rw [List.length_drop] at hd
  omega

/-- Relations that differ at `n` alone give the same path where it does not meet `n`. -/
theorem upstream_congr (hl : ∀ a, a ≠ n → leader a = other a) (h : n ∉ upstream leader fuel k) :
    upstream leader fuel k = upstream other fuel k := by
  induction fuel generalizing k with
  | zero => rfl
  | succ fuel ih =>
    have hkn : k ≠ n := by
      rintro rfl
      exact h (by simp [upstream])
    cases hk : leader k with
    | some l =>
      rw [upstream_succ_some hk] at h ⊢
      rw [upstream_succ_some ((hl k hkn).symm.trans hk), ih fun hm => h (List.mem_cons_of_mem _ hm)]
    | none => rw [upstream_succ_none hk, upstream_succ_none ((hl k hkn).symm.trans hk)]

theorem foldl_max_le_iff (l : List Nat) (a : Nat) : l.foldl max a ≤ m ↔ a ≤ m ∧ ∀ x ∈ l, x ≤ m := by
  induction l generalizing a with
  | nil => simp
  | cons x l ih => rw [List.foldl_cons, ih, max_le_iff, List.forall_mem_cons, and_assoc]

namespace State

variable {s : State} {f : SlotFields}

/-- R14: the longest line through the target bounds the target's own path with what stands downstream. -/
theorem lineLength_le_iff : s.lineLength n f ≤ m ↔
    ∀ k, (upstream (s.leaderAfter n f) 32 n).length + downstreamTo (s.leaderAfter n f) n k ≤ m := by
  have hmax := foldl_max_le_iff (m := m - (upstream (s.leaderAfter n f) 32 n).length)
    ((List.finRange 32).map (downstreamTo (s.leaderAfter n f) n)) 0
  simp only [List.forall_mem_map, List.mem_finRange, forall_true_left, Nat.zero_le, true_and] at hmax
  simp only [lineLength]
  constructor
  · intro h k
    have := hmax.1 (by omega) k
    omega
  · intro h
    have := hmax.2 fun k => Nat.le_sub_of_add_le' (h k)
    have := h n
    omega

/-- A path that reaches the target is no longer than the longest line through the target. -/
theorem length_upstream_le_lineLength (h : n ∈ upstream (s.leaderAfter n f) 32 k) :
    (upstream (s.leaderAfter n f) 32 k).length ≤ s.lineLength n f := by
  have hk := lineLength_le_iff.1 (Nat.le_refl (s.lineLength n f)) k
  simp only [downstreamTo, List.contains_iff_mem, h, if_true] at hk
  rw [length_upstream_of_mem h]
  have := length_upstream_mono (leader := s.leaderAfter n f) (k := n)
    (Nat.sub_le 32 ((upstream (s.leaderAfter n f) 32 k).idxOf n))
  omega

/-- Off the target the staged relations are the installed ones. -/
theorem leaderAfter_ne (h : k ≠ n) : s.leaderAfter n f k = installedLeader s k := if_neg h

/-- A path of the staged relations that does not meet the target is an installed one. -/
theorem upstream_leaderAfter (h : n ∉ upstream (s.leaderAfter n f) fuel k) :
    upstream (s.leaderAfter n f) fuel k = upstream (installedLeader s) fuel k :=
  upstream_congr (fun _ => leaderAfter_ne) h

end State

end Sys2Proof.Machine
end

section
/-! SUPPORT. What every operation but COMMIT and the resets leaves of the slot table: its records, and overrun counts that
saturate at 255. -/

namespace Sys2Proof.Safety

open Sys2Proof.Machine

/-- The installed records stay, and a count of at most 255 stays one (R4, R24). -/
structure TableCalm (s t : State) : Prop where
  records : t.slots.records = s.slots.records
  overrun : ∀ n, (s.slotRt n).overrun ≤ 255 → (t.slotRt n).overrun ≤ 255

namespace TableCalm

variable {s t u : State} {bs : List Block}

theorem refl : TableCalm s s := ⟨rfl, fun _ h => h⟩

theorem trans (h : TableCalm s t) (k : TableCalm t u) : TableCalm s u :=
  ⟨k.records.trans h.records, fun n hn => k.overrun n (h.overrun n hn)⟩

theorem ite {c : Prop} [Decidable c] (h : TableCalm s t) (k : TableCalm s u) : TableCalm s (if c then t else u) := by
  split <;> assumption

theorem foldl {α : Type} {f : State → α → State} (h : ∀ s a, TableCalm s (f s a)) (l : List α) (s : State) :
    TableCalm s (l.foldl f s) := by
  induction l generalizing s with
  | nil => exact refl
  | cons a l ih => exact (h s a).trans (ih _)

theorem of_slots (h : t.slots = s.slots) : TableCalm s t :=
  ⟨congrArg SlotTable.records h, fun n hn => by simpa only [State.slotRt, h] using hn⟩

/-- An operation that leaves the slot table alone. -/
theorem of_within (h : Within bs s t) (hb : Block.slots ∉ bs := by decide) : TableCalm s t := of_slots (h.slots hb)

theorem record (h : TableCalm s t) (n : SlotIx) : t.record n = s.record n := by simp only [State.record, h.records]

theorem tableLaw (h : TableCalm s t) (hs : TableLaw s) : TableLaw t := by
  obtain ⟨range, count, line⟩ := hs
  have hl : installedLeader t = installedLeader s := funext fun n => by simp only [installedLeader, h.record]
  refine ⟨fun n => ?_, fun n => h.overrun n (count n), fun n => ?_⟩
  · rw [h.record]; exact range n
  · rw [hl]; exact line n

end TableCalm

end Sys2Proof.Safety

namespace Sys2Proof.Machine.State

open Sys2Proof.Safety

variable (s : State)

theorem setSlotRt_calm (n : SlotIx) (x : SlotRuntime) (hx : (s.slotRt n).overrun ≤ 255 → x.overrun ≤ 255) :
    TableCalm s (s.setSlotRt n x) where
  records := rfl
  overrun m hm := by
    rw [slotRt_setSlotRt]
    split
    · next h => exact hx (h ▸ hm)
    · exact hm

theorem setOutcome_calm (n o) : TableCalm s (s.setOutcome n o) := setSlotRt_calm s n _ id

theorem countOverrun_calm (n) : TableCalm s (s.countOverrun n) :=
  (setSlotRt_calm s n _ fun _ => min_le_right _ _).trans (.of_within (occur_within ..))

/-! ## Queue and trigger sources -/

theorem request_calm (o n) : TableCalm s (s.request o n) :=
  .ite (.ite .refl (countOverrun_calm ..)) (.of_within (enqueue_within ..))

theorem suspend_calm (j) : TableCalm s (s.suspend j) := by
  have absorb : TableCalm s (s.absorbPlain j.slot) :=
    .ite (.trans (.of_within (setSublists_within ..)) (countOverrun_calm ..)) .refl
  unfold suspend
  exact absorb.trans (.trans (.of_within (setSublists_within ..))
    (.trans (.of_within (setEngine_within ..)) (.of_within (grant_within _))))

theorem raise_calm (o n) : TableCalm s (s.raise o n) := .ite (request_calm ..) .refl

theorem raiseAll_calm (o f) : TableCalm s (s.raiseAll o f) :=
  .foldl (fun t n => .ite (raise_calm t o n) .refl) _ _

theorem expire_calm (n) : TableCalm s (s.expire n) := by
  unfold expire
  split
  · exact .trans (.of_within (setCountdown_within ..)) (raise_calm ..)
  all_goals exact .refl

theorem periodicExpiry_calm (n) : TableCalm s (s.periodicExpiry n) := .ite (expire_calm ..) .refl

theorem restartTriggers_calm (n) : TableCalm s (s.restartTriggers n) := by
  unfold restartTriggers
  simp only
  split
  · split
    · exact .trans (.of_within (setDecim_within ..)) (.trans (.of_within (setCountdown_within ..)) (raise_calm ..))
    · exact .trans (.of_within (setDecim_within ..)) (.of_within (setCountdown_within ..))
  · exact .trans (.of_within (setDecim_within ..)) (.of_within (setCountdown_within ..))

theorem edge_calm (pin l) : TableCalm s (s.edge pin l) :=
  .ite (.of_within (setTriggers_within ..))
    (.trans (.of_within (setTriggers_within ..)) (.trans (.of_within (setTriggers_within ..)) (raiseAll_calm ..)))

theorem countPoint_calm (c n) : TableCalm s (countPoint c s n) := by
  unfold countPoint
  split
  · exact .ite (.ite (.trans (.of_within (setDecim_within ..)) (raise_calm ..)) (.of_within (setDecim_within ..))) .refl
  all_goals exact .refl

theorem triggerPoint_calm (c) : TableCalm s (s.triggerPoint c) := .foldl (fun t n => countPoint_calm t c n) _ _

/-! ## PWM channels -/

theorem pointAtStart_calm (c) : TableCalm s (s.pointAtStart c) := .ite (triggerPoint_calm ..) .refl

theorem startPeriod_calm (c) : TableCalm s (s.startPeriod c) :=
  .trans (.of_within (setChannel_within ..)) (pointAtStart_calm ..)

theorem periodEnd_calm (c) : TableCalm s (s.periodEnd c) :=
  .ite (.trans (.of_within (setChannel_within ..)) (pointAtStart_calm ..)) .refl

theorem pointReached_calm (c) : TableCalm s (s.pointReached c) :=
  .ite (.trans (.of_within (setChannel_within ..)) (triggerPoint_calm ..)) .refl

theorem writePwmCtrl_calm (c d) : TableCalm s (writePwmCtrl c d s) := by
  unfold writePwmCtrl
  simp only
  split
  · exact .ite (.trans (.of_within (setChannel_within ..)) (startPeriod_calm ..)) (.of_within (setChannel_within ..))
  · exact .trans (.of_within (setChannel_within ..)) (.of_within (setChannel_within ..))
  all_goals exact .of_within (setChannel_within ..)

/-! ## Mode control -/

theorem abandonJob_calm (j) : TableCalm s (s.abandonJob j) :=
  (setOutcome_calm ..).trans (.trans (.of_within (setEngine_within ..)) (.of_within (grant_within _)))

theorem guardAbort_calm : TableCalm s s.guardAbort := by
  unfold guardAbort
  split
  · exact .ite .refl (abandonJob_calm ..)
  all_goals exact .refl

theorem enterGuard_calm : TableCalm s s.enterGuard := by
  unfold enterGuard
  exact .trans (.of_within (setMode_within ..)) (.trans (.of_within (withdraw_within ..))
    (.trans (.of_within (freezeCountdowns_within _)) (.trans (.of_within (stopChannels_within _)) (guardAbort_calm _))))

theorem takeReleased_calm (o) : TableCalm s (s.takeReleased o) := by
  cases o with
  | expiry n => exact expire_calm ..
  | point c => exact triggerPoint_calm ..

theorem takeAllReleased_calm (k os) : TableCalm s (takeAllReleased k os s) := by
  induction k generalizing os s with
  | zero => exact .refl
  | succ k ih =>
    match os with
    | [] => exact .refl
    | [o] => exact takeReleased_calm s o
    | o :: p :: os => exact .trans (.of_within (useChoice_within s)) ((takeReleased_calm ..).trans (ih _ _))

theorem leaveGuard_calm (c) : TableCalm s (s.leaveGuard c) := by
  unfold leaveGuard
  exact .trans (.of_within (setMode_within ..)) (.trans (.of_within (occur_within ..))
    (.trans (.of_within (thawCountdowns_within _)) (.trans (.of_within (startChannels_within _))
      (takeAllReleased_calm ..))))

theorem wakeExit_calm (r) : TableCalm s (s.wakeExit r) := by
  unfold wakeExit
  split
  · exact leaveGuard_calm ..
  · exact .refl

/-! ## Watch rules -/

theorem snapshotRequest_calm (n) : TableCalm s (s.snapshotRequest n) := by
  unfold snapshotRequest
  split
  · exact raise_calm ..
  · exact .refl

theorem snapshotAndExit_calm (n) : TableCalm s (s.snapshotAndExit n) := by
  have irq : ∀ (t : State) b, TableCalm t (t.occurIf b .watchTrip) := fun t b => .of_within (occurIf_within ..)
  have used : TableCalm s s.useChoice := .of_within (useChoice_within s)
  unfold snapshotAndExit
  exact .ite
    (.ite
      (.ite (used.trans ((snapshotRequest_calm ..).trans ((irq ..).trans (wakeExit_calm ..))))
        (used.trans ((irq ..).trans ((wakeExit_calm ..).trans (snapshotRequest_calm ..)))))
      ((irq ..).trans (wakeExit_calm ..)))
    ((snapshotRequest_calm ..).trans (irq ..))

theorem trip_calm (n res) : TableCalm s (s.trip n res) := by
  unfold trip
  exact .trans (.of_within (setRuleRt_within ..)) (.trans (.of_within (placeClaims_within ..))
    (.trans (.of_within (faultUpdate_within _)) (.trans (.of_within (logTrip_within ..))
      (.trans (.of_within (setRuleRt_within ..)) ((snapshotAndExit_calm ..).trans (.of_within (setRuleRt_within ..)))))))

theorem countQualifying_calm (n res run) : TableCalm s (s.countQualifying n res run) :=
  .ite (trip_calm ..) (.of_within (moveRule_within ..))

theorem judge_calm (n res) : TableCalm s (s.judge n res) := by
  unfold judge
  split
  all_goals first
    | exact .refl
    | exact countQualifying_calm ..
    | exact .of_within (countReleasing_within ..)
    | exact .of_within (moveRule_within ..)

theorem evaluateRules_calm (a res) : TableCalm s (s.evaluateRules a res) :=
  .foldl (fun t n => .ite ((judge_calm t n res).trans (.of_within (keepPrevious_within ..))) .refl) _ _

/-! ## Results and engine -/

theorem deliver_calm (d) : TableCalm s (s.deliver d) := by
  unfold deliver
  exact .trans (.of_within (writeResult_within ..)) (.trans (.of_within (captureResult_within ..))
    ((evaluateRules_calm ..).trans (raiseAll_calm ..)))

theorem endStale_calm (j) : TableCalm s (s.endStale j) :=
  (setOutcome_calm ..).trans (.trans (.of_within (setEngine_within ..)) (.of_within (grant_within _)))

theorem endStored_calm (j) : TableCalm s (s.endStored j) :=
  (deliver_calm ..).trans ((setOutcome_calm ..).trans
    (.trans (.of_within (setEngine_within ..)) (.of_within (grant_within _))))

theorem afterSample_calm (j) : TableCalm s (s.afterSample j) :=
  .ite (endStale_calm ..) (.ite (endStored_calm ..) (.ite (suspend_calm ..) (.of_within (startSample_within ..))))

theorem completion_calm (k raw) : TableCalm s (s.completion k raw) := by
  unfold completion
  split
  · exact .ite (afterSample_calm ..) .refl
  all_goals exact .refl

theorem endFailed_calm (j) : TableCalm s (s.endFailed j) :=
  .ite (setOutcome_calm ..) ((deliver_calm ..).trans (setOutcome_calm ..))

theorem deadlineExpiry_calm : TableCalm s s.deadlineExpiry := by
  unfold deadlineExpiry
  split
  · exact .ite ((endFailed_calm ..).trans
      (.trans (.of_within (enterFaulted_within ..)) (.of_within (occur_within ..)))) .refl
  all_goals exact .refl

end Sys2Proof.Machine.State

namespace Sys2Proof.Machine

open Sys2Proof.Safety

theorem withIndex_calm {bound : Nat} {arg : Byte} {s : State} {f : Fin bound → CommandEnd}
    (h : ∀ n, TableCalm s (f n).state) : TableCalm s (withIndex bound arg s f).state := by
  unfold withIndex
  split
  · exact h _
  · exact .refl

/-- Every command but COMMIT and SOFT_RESET. -/
theorem Command.effect_calm (c : Command) (arg : Byte) (s : State) (hc : c ≠ .softReset) (hc' : c ≠ .commit) :
    TableCalm s (c.effect arg s).state := by
  cases c <;> simp only [Command.effect]
  case softReset => exact absurd rfl hc
  case commit => exact absurd rfl hc'
  case trigger =>
    refine withIndex_calm fun n => ?_
    split
    · exact .refl
    · split
      · exact .refl
      · exact s.request_calm _ _
  case abort =>
    unfold State.abort
    split
    · exact s.abandonJob_calm _
    all_goals exact .refl
  case clearSlotStats =>
    exact withIndex_calm fun n => s.setSlotRt_calm n { s.slotRt n with overrun := 0 } fun _ => Nat.zero_le _
  case guardEnter =>
    unfold State.guardEnter
    repeat' split
    all_goals first | exact .refl | exact s.enterGuard_calm
  case guardExit =>
    unfold State.guardExit
    split
    · exact s.leaveGuard_calm _
    · exact .refl
  all_goals exact .of_within (Command.effect_within _ arg s hc)

/-- Every register write. -/
theorem Reg.writeEffect_calm (r : Reg) (d : Word) (f : State → State) (s : State) (hf : r.writeEffect d = some f) :
    TableCalm s (f s) := by
  by_cases hr : Block.slots ∈ writeBlocks r
  · cases r <;> simp only [writeBlocks] at hr
    case pwmCtrl c => cases hf; exact s.writePwmCtrl_calm c d
    all_goals exact absurd hr (by decide)
  · exact .of_within (Reg.writeEffect_within r d f s hf) hr

end Sys2Proof.Machine
end

section
/-! SUPPORT. The record that staged fields install, the slot checks passed, and what COMMIT can do. -/

namespace Sys2Proof.Machine

open Sys2Proof.Safety

/-! ## The installed record -/

/-- The counts of R1 are the staged numbers that name one. -/
theorem Averaging.ofCount_eq_some_iff (x : BitVec 5) (a : Averaging) :
    Averaging.ofCount x = some a ↔ a.count = x.toNat := by
  cases a <;> revert x <;> decide

theorem Averaging.ofCount_isSome_iff (x : BitVec 5) :
    (Averaging.ofCount x).isSome = true ↔ x.toNat ∈ [1, 2, 4, 8, 16] := by
  revert x
  decide

/-- R15: what a field group installs, field by field. -/
theorem SlotFields.toRecord_eq_some_iff (f : SlotFields) (r : SlotRecord) :
    f.toRecord = some r ↔
      f.enabled = r.enabled ∧ r.input.val = f.input.toNat ∧ f.acq = r.acq ∧ f.res = r.res ∧ r.avg.count = f.avg.toNat ∧
        f.cls = r.cls ∧ f.trigger = r.trigger ∧ f.capture = r.capture ∧ f.guard = r.guard := by
  obtain ⟨enabled, input, acq, res, avg, cls, trigger, capture, guard⟩ := r
  simp only [toRecord, ← Averaging.ofCount_eq_some_iff]
  split
  · next h =>
    simp only [Option.map_eq_some_iff, SlotRecord.mk.injEq, Fin.ext_iff]
    constructor
    · rintro ⟨a, ha, h1, h2, h3, h4, rfl, h5, h6, h7, h8⟩
      exact ⟨h1, h2.symm, h3, h4, ha, h5, h6, h7, h8⟩
    · rintro ⟨h1, h2, h3, h4, ha, h5, h6, h7, h8⟩
      exact ⟨avg, ha, h1, h2.symm, h3, h4, rfl, h5, h6, h7, h8⟩
  · next h =>
    have := input.isLt
    exact ⟨nofun, fun hr => absurd hr.2.1 (by omega)⟩

/-- R12: BAD_INPUT and BAD_AVERAGE are all that keeps a field group from being a record. -/
theorem SlotFields.exists_toRecord {f : SlotFields} (hi : f.input.toNat < 24)
    (ha : (Averaging.ofCount f.avg).isSome = true) : ∃ r, f.toRecord = some r := by
  obtain ⟨a, ha⟩ := Option.isSome_iff_exists.1 ha
  simp [toRecord, hi, ha]

theorem SlotFields.toRecord_trigger {f : SlotFields} {r : SlotRecord} (h : f.toRecord = some r) :
    r.trigger = f.trigger := by
  obtain ⟨-, -, -, -, -, -, ht, -⟩ := (f.toRecord_eq_some_iff r).1 h
  exact ht.symm

theorem SlotFields.leader?_eq_some_iff (f : SlotFields) (l : SlotIx) :
    f.leader? = some l ↔ f.kind = .follow ∧ f.leader = l := by
  unfold leader? SlotFields.trigger
  cases f.kind <;> simp [Trigger.leader]

/-! ## The slot checks -/

/-- The checks of R12 to R14 that a slot record passes. -/
structure SlotChecksPass (s : State) (n : SlotIx) (f : SlotFields) : Prop where
  input : f.input.toNat < 24
  average : (Averaging.ofCount f.avg).isSome = true
  period : ¬(f.kind = .periodic ∧ f.period = 0)
  decimation : ¬(f.kind = .pwm ∧ (f.decimation = 0 ∨ 16 < f.decimation.toNat))
  leaderSelf : f.leader? ≠ some n
  chainCycle : s.closesLoop n f = false
  chainTooLong : s.lineLength n f ≤ Config.longestLine

theorem State.slotDetail_eq_none {s : State} {n : SlotIx} {f : SlotFields} (h : s.slotDetail n f = .none) :
    SlotChecksPass s n f := by
  unfold State.slotDetail at h
  repeat' split at h
  all_goals cases h
  next h1 h2 h3 h4 h5 h6 h7 =>
    exact ⟨by omega, by simpa [Option.isSome_iff_ne_none] using h2, h3, h4, h5, by simpa using h6, by omega⟩

/-- R12, R53: a trigger that passes its checks has its parameters in their ranges. -/
theorem SlotChecksPass.triggerRange {s : State} {n : SlotIx} {f : SlotFields} (h : SlotChecksPass s n f) :
    TriggerRange f.trigger := by
  have hp := h.period
  have hd := h.decimation
  unfold SlotFields.trigger
  cases hk : f.kind <;> simp only [TriggerRange]
  case periodic =>
    have : f.period.toNat ≠ 0 := fun h0 => hp ⟨hk, BitVec.eq_of_toNat_eq h0⟩
    omega
  case pwm =>
    have : f.decimation.toNat ≠ 0 := fun h0 => hd ⟨hk, .inl (BitVec.eq_of_toNat_eq h0)⟩
    have : ¬16 < f.decimation.toNat := fun h0 => hd ⟨hk, .inr h0⟩
    omega

/-! ## COMMIT -/

/-- What COMMIT can do: nothing, or the installation of a slot record or of a watch record whose checks pass. -/
theorem State.commit_cases (s : State) :
    (∃ r, r.isRefusal = true ∧ s.commit = .result s r) ∨
    (∃ n r, s.staging.target = .slot n ∧ s.pinnedSource n = false ∧ s.slotDetail n s.staging.slot = .none ∧
      s.staging.slot.toRecord = some r ∧ s.commit = .result ((s.installSlot n r).stageInstalledSlot n r) .ok) ∨
    ∃ n r, s.staging.target = .watch n ∧ (s.ruleRt n).state.active = false ∧ (s.rule n).pinned = false ∧
      s.watchDetail s.staging.watch = .none ∧ s.staging.watch.toRecord = some r ∧
        s.commit = .result ((s.installRule n r).stageInstalledRule n r) .ok := by
  unfold State.commit
  split
  · exact .inl ⟨_, rfl, rfl⟩
  · exact .inl ⟨_, rfl, rfl⟩
  · next n _ _ ht =>
    unfold State.commitSlot
    split
    · exact .inl ⟨_, rfl, rfl⟩
    · next hp =>
      split
      · next r hd hr => exact .inr (.inl ⟨n, r, ht, by simpa using hp, hd, hr, rfl⟩)
      · exact .inl ⟨_, rfl, rfl⟩
  · next n _ _ ht =>
    unfold State.commitWatch
    split
    · exact .inl ⟨_, rfl, rfl⟩
    · next ha =>
      split
      · exact .inl ⟨_, rfl, rfl⟩
      · next hp =>
        split
        · next r hd hr => exact .inr (.inr ⟨n, r, ht, by simpa using ha, by simpa using hp, hd, hr, rfl⟩)
        · exact .inl ⟨_, rfl, rfl⟩

theorem State.installSlot_calm (s : State) (n : SlotIx) (r : SlotRecord) : TableCalm (s.setRecord n r) (s.installSlot n r) :=
  .trans (.of_within (withdraw_within ..)) (.trans (.of_within (withdrawJob_within ..))
    (.trans (.of_within (setResult_within ..)) (restartTriggers_calm ..)))

end Sys2Proof.Machine
end

section
/-! PROOF. Every step keeps the law of the slot table (R2, R4, R14). -/

namespace Sys2Proof.Machine

open Sys2Proof.Safety

variable {s : State} {n : SlotIx} {f : SlotFields} {r : SlotRecord}

/-- R13: the relations that the checks look at are those of the table with the record installed. -/
theorem installedLeader_setRecord (h : f.toRecord = some r) : installedLeader (s.setRecord n r) = s.leaderAfter n f := by
  funext k
  unfold installedLeader State.leaderAfter
  rw [State.record_setRecord]
  split
  · rw [SlotFields.toRecord_trigger h, SlotFields.leader?]
  · rfl

/-- R14: a line that does not meet the target is an installed one, and one that does is bounded by the check. -/
theorem lineLaw_setRecord (hs : LineLaw s) (hf : f.toRecord = some r) (hl : s.lineLength n f ≤ Config.longestLine) :
    LineLaw (s.setRecord n r) := by
  intro k
  rw [installedLeader_setRecord hf]
  by_cases hk : n ∈ upstream (s.leaderAfter n f) 32 k
  · exact (State.length_upstream_le_lineLength hk).trans hl
  · rw [State.upstream_leaderAfter hk]
    exact hs k

/-- A record that passes its checks keeps the law of the table. -/
theorem tableLaw_setRecord (hs : TableLaw s) (hf : f.toRecord = some r) (hc : SlotChecksPass s n f) :
    TableLaw (s.setRecord n r) := by
  obtain ⟨range, count, line⟩ := hs
  refine ⟨fun m => ?_, count, lineLaw_setRecord line hf hc.chainTooLong⟩
  rw [State.record_setRecord]
  split
  · rw [SlotFields.toRecord_trigger hf]
    exact hc.triggerRange
  · exact range m

theorem tableLaw_commit (hs : TableLaw s) : TableLaw s.commit.state := by
  obtain ⟨_, _, h⟩ | ⟨n, r, -, -, hd, hr, h⟩ | ⟨n, r, -, -, -, -, -, h⟩ := s.commit_cases <;> rw [h]
  · exact hs
  · have staged := State.stageInstalledSlot_within (s.installSlot n r) n r
    exact ((s.installSlot_calm n r).trans (.of_within staged)).tableLaw
      (tableLaw_setRecord hs hr (State.slotDetail_eq_none hd))
  · exact ((TableCalm.of_within (s.installRule_within n r)).trans
      (.of_within (State.stageInstalledRule_within _ n r))).tableLaw hs

/-- R3, R4: the records of a reset are HOST_ONLY, without a count. -/
theorem tableLaw_resetAll (s : State) (c : ResetCause) (b : Bool) : TableLaw (s.resetAll c b) := by
  have hr : ∀ n, (s.resetAll c b).record n = SlotRecord.reset := by simp [State.resetAll, State.reset, State.record]
  have hx : ∀ n, (s.resetAll c b).slotRt n = SlotRuntime.reset := by simp [State.resetAll, State.reset, State.slotRt]
  refine ⟨fun n => ?_, fun n => ?_, fun n => ?_⟩
  · rw [hr]
    trivial
  · rw [hx]
    exact Nat.zero_le _
  · have : installedLeader (s.resetAll c b) n = none := by rw [installedLeader, hr]; rfl
    simp [upstream_succ_none this, Config.longestLine]

theorem kept_tableLaw : Kept TableLaw where
  quiet h := (TableCalm.of_within h.within).tableLaw
  command c arg s hc hs := by
    by_cases h : c = .commit
    · subst h
      exact tableLaw_commit hs
    · exact (c.effect_calm arg s hc h).tableLaw hs
  write r d f s hf := (r.writeEffect_calm d f s hf).tableLaw
  captureTime s := (TableCalm.of_within s.captureTime_within).tableLaw
  captureEntry s := (TableCalm.of_within s.captureEntry_within).tableLaw
  captureJob s := (TableCalm.of_within s.captureJob_within).tableLaw
  captureFault s := (TableCalm.of_within s.captureFault_within).tableLaw
  resetAll s c b _ := tableLaw_resetAll s c b
  resetEnd s := (TableCalm.of_slots rfl).tableLaw
  completion s k raw := (s.completion_calm k raw).tableLaw
  deadlineExpiry s := s.deadlineExpiry_calm.tableLaw
  tick s k := (TableCalm.of_within (s.tick_within k)).tableLaw
  periodicExpiry s n := (s.periodicExpiry_calm n).tableLaw
  edge s pin l := (s.edge_calm pin l).tableLaw
  pointReached s c := (s.pointReached_calm c).tableLaw
  periodEnd s c := (s.periodEnd_calm c).tableLaw
  dutyEnd s c := (TableCalm.of_within (s.dutyEnd_within c)).tableLaw
  softStartExpiry s n := (TableCalm.of_within (s.setSwitch_within n _)).tableLaw
  refillExpiry s n := (TableCalm.of_within (s.setSwitch_within n _)).tableLaw
  retryExpiry s n := (TableCalm.of_within (s.setSwitch_within n _)).tableLaw
  currentLimit s n := (TableCalm.of_within (s.currentLimit_within n)).tableLaw

/-- Settles O53: every part of a step keeps the law; the one that changes a record is COMMIT, whose checks speak of the
table with that record installed. -/
theorem tableLawKept : Obligations.TableLawKept :=
  fun _ _ hs ht => kept_tableLaw.step hs ht

end Sys2Proof.Machine
end

section
/-! PROOF. The chain checks speak of the leader relations with the staged record installed (R13, R14). -/

namespace Sys2Proof.Machine

open Sys2Proof.Safety

/-! ## Paths, lines and reachability -/

section Paths

variable {leader : SlotIx → Option SlotIx} {fuel : Nat} {k a b : SlotIx} {l : List SlotIx}

theorem head_mem_upstream : k ∈ upstream leader (fuel + 1) k := by simp [upstream]

theorem head?_upstream (h : a ∈ (upstream leader fuel k).head?) : a = k := by
  cases fuel with
  | zero => cases h
  | succ fuel => simpa [upstream, eq_comm] using h

/-- A path is a line. -/
theorem isLine_upstream : IsLine leader (upstream leader fuel k) := by
  induction fuel generalizing k with
  | zero => exact .nil
  | succ fuel ih =>
    cases hk : leader k with
    | none =>
      rw [upstream_succ_none hk]
      exact .singleton k
    | some m =>
      rw [upstream_succ_some hk]
      exact List.isChain_cons.2 ⟨fun y hy => by rw [hk, head?_upstream hy], ih⟩

/-- The slots of a path are reached from its first. -/
theorem reaches_of_mem_upstream (h : a ∈ upstream leader fuel k) :
    Relation.ReflTransGen (fun a b => leader a = some b) k a := by
  induction fuel generalizing k with
  | zero => cases h
  | succ fuel ih =>
    cases hk : leader k with
    | none =>
      rw [upstream_succ_none hk, List.mem_singleton] at h
      exact h ▸ .refl
    | some m =>
      rw [upstream_succ_some hk, List.mem_cons] at h
      obtain rfl | h := h
      · exact .refl
      · exact .head hk (ih h)

/-- A path that ends before its fuel holds the leader of each of its slots. -/
theorem leader_mem_upstream (hl : (upstream leader fuel k).length < fuel) (ha : a ∈ upstream leader fuel k)
    (hb : leader a = some b) : b ∈ upstream leader fuel k := by
  induction fuel generalizing k with
  | zero => cases ha
  | succ fuel ih =>
    cases hk : leader k with
    | none =>
      rw [upstream_succ_none hk, List.mem_singleton] at ha
      rw [ha, hk] at hb
      cases hb
    | some m =>
      rw [upstream_succ_some hk] at hl ha ⊢
      have hl' : (upstream leader fuel m).length < fuel := Nat.lt_of_succ_lt_succ hl
      refine List.mem_cons_of_mem _ ?_
      obtain rfl | ha := List.mem_cons.1 ha
      · obtain rfl : m = b := Option.some.inj (hk.symm.trans hb)
        obtain ⟨fuel, rfl⟩ : ∃ g, fuel = g + 1 := ⟨fuel - 1, by omega⟩
        exact head_mem_upstream
      · exact ih hl' ha

/-- A path that ends before its fuel holds every slot that its first one reaches. -/
theorem mem_upstream_of_reaches (hl : (upstream leader fuel k).length < fuel)
    (h : Relation.ReflTransGen (fun a b => leader a = some b) k a) : a ∈ upstream leader fuel k := by
  induction h with
  | refl =>
    obtain ⟨fuel, rfl⟩ : ∃ g, fuel = g + 1 := ⟨fuel - 1, by omega⟩
    exact head_mem_upstream
  | tail _ hab ih => exact leader_mem_upstream hl ih hab

/-- A line is the path of its first slot, as far as the line goes. -/
theorem upstream_of_isLine (h : IsLine leader (k :: l)) : upstream leader (l.length + 1) k = k :: l := by
  induction l generalizing k with
  | nil => cases hk : leader k <;> simp [upstream, hk]
  | cons m l ih =>
    obtain ⟨hk, hm⟩ := List.isChain_cons_cons.1 h
    rw [List.length_cons, upstream_succ_some hk, ih hm]

/-- A path that ends before its fuel goes on with every line from its first slot. -/
theorem isPrefix_upstream_of_isLine (hl : (upstream leader fuel k).length < fuel) (h : IsLine leader (k :: l)) :
    k :: l <+: upstream leader fuel k := by
  rw [← upstream_of_isLine h]
  rcases Nat.le_total (l.length + 1) fuel with hm | hm
  · rw [← upstream_take hm]
    exact List.take_prefix _ _
  · have ht := upstream_take (leader := leader) (k := k) hm
    have hlen := congrArg List.length ht
    rw [List.length_take] at hlen
    rw [← ht, List.take_of_length_le (by omega)]

end Paths

/-! ## The staged relations -/

namespace State

variable {s : State} {n k : SlotIx} {f : SlotFields} {fuel : Nat}

/-- R13: the relation of each slot with the staged record installed. -/
theorem leaderAfter_eq_some_iff (a b : SlotIx) : s.leaderAfter n f a = some b ↔
    if a = n then f.kind = .follow ∧ f.leader = b else (s.record a).trigger = .follow b := by
  unfold leaderAfter
  split
  · exact f.leader?_eq_some_iff b
  · cases (s.record a).trigger <;> simp [Trigger.leader]

/-- A path of the staged relations that does not meet the target is as short as an installed one. -/
theorem length_upstream_of_not_mem (hs : LineLaw s) (hf : fuel ≤ 32) (h : n ∉ upstream (s.leaderAfter n f) fuel k) :
    (upstream (s.leaderAfter n f) fuel k).length ≤ 5 := by
  rw [upstream_leaderAfter h]
  exact (length_upstream_mono hf).trans (hs k)

theorem closesLoop_iff_mem : s.closesLoop n f = true ↔
    ∃ l, f.leader? = some l ∧ n ∈ upstream (s.leaderAfter n f) 32 l := by
  unfold closesLoop
  cases f.leader? <;> simp

/-- R13: where the installed lines are short, the walk finds the target exactly when the relations lead to it. -/
theorem mem_upstream_leaderAfter_iff (hs : LineLaw s) : n ∈ upstream (s.leaderAfter n f) 32 k ↔
    Relation.ReflTransGen (fun a b => s.leaderAfter n f a = some b) k n := by
  refine ⟨reaches_of_mem_upstream, fun h => ?_⟩
  by_contra hn
  have := length_upstream_of_not_mem hs le_rfl hn
  exact hn (mem_upstream_of_reaches (by omega) h)

/-- Without a loop the target's own path holds the target and an installed line. -/
theorem length_upstream_target (hs : LineLaw s) (hc : s.closesLoop n f = false) :
    (upstream (s.leaderAfter n f) 32 n).length ≤ 6 := by
  have hself : s.leaderAfter n f n = f.leader? := if_pos rfl
  cases hl : f.leader? with
  | none => simp [upstream_succ_none (hself.trans hl)]
  | some l =>
    have hn : n ∉ upstream (s.leaderAfter n f) 32 l := fun h => by
      rw [closesLoop_iff_mem.2 ⟨l, hl, h⟩] at hc
      cases hc
    have := length_upstream_of_not_mem hs le_rfl hn
    have := length_upstream_mono (leader := s.leaderAfter n f) (k := l) (show 31 ≤ 32 by decide)
    rw [upstream_succ_some (hself.trans hl), List.length_cons]
    omega

/-- Before a path meets the target it holds at most 5 slots. -/
theorem idxOf_target_le (hs : LineLaw s) (h : n ∈ upstream (s.leaderAfter n f) 32 k) :
    (upstream (s.leaderAfter n f) 32 k).idxOf n ≤ 5 := by
  by_contra hlt
  have hn : n ∉ upstream (s.leaderAfter n f) 6 k := by
    rw [← upstream_take (show 6 ≤ 32 by decide), List.mem_take_iff_idxOf_lt h]
    omega
  have hshort := length_upstream_of_not_mem hs (by decide) hn
  have hi := List.idxOf_lt_length_of_mem h
  rw [← upstream_take (show 6 ≤ 32 by decide), List.length_take] at hshort
  omega

/-- Without a loop every path through the target holds the slots before it and the target's whole own path. -/
theorem length_upstream_through (hs : LineLaw s) (hc : s.closesLoop n f = false)
    (h : n ∈ upstream (s.leaderAfter n f) 32 k) :
    (upstream (s.leaderAfter n f) 32 k).length =
      (upstream (s.leaderAfter n f) 32 k).idxOf n + (upstream (s.leaderAfter n f) 32 n).length := by
  have hi := idxOf_target_le hs h
  have hown := length_upstream_target hs hc
  rw [length_upstream_of_mem h, upstream_eq_of_length_le (Nat.sub_le ..) (by omega)]

/-- Without a loop no path is as long as the walk's fuel. -/
theorem length_upstream_lt (hs : LineLaw s) (hc : s.closesLoop n f = false) (k : SlotIx) :
    (upstream (s.leaderAfter n f) 32 k).length < 32 := by
  by_cases h : n ∈ upstream (s.leaderAfter n f) 32 k
  · have := idxOf_target_le hs h
    have := length_upstream_target hs hc
    have := length_upstream_through hs hc h
    omega
  · have := length_upstream_of_not_mem hs le_rfl h
    omega

/-- R13: CHAIN_CYCLE fails exactly when the staged leader leads back to the target. -/
theorem closesLoop_iff (hs : LineLaw s) : s.closesLoop n f = true ↔
    ∃ l, f.kind = .follow ∧ f.leader = l ∧ Relation.ReflTransGen (fun a b => s.leaderAfter n f a = some b) l n := by
  simp only [closesLoop_iff_mem, f.leader?_eq_some_iff, mem_upstream_leaderAfter_iff hs, and_assoc]

/-- R14: CHAIN_TOO_LONG fails exactly when some line through the target is too long. -/
theorem lt_lineLength_iff (hs : LineLaw s) (hc : s.closesLoop n f = false) (m : Nat) :
    m < s.lineLength n f ↔ ∃ l, IsLine (s.leaderAfter n f) l ∧ n ∈ l ∧ m < l.length := by
  constructor
  · intro h
    have : ∃ k, m < (upstream (s.leaderAfter n f) 32 n).length + downstreamTo (s.leaderAfter n f) n k := by
      by_contra hk
      exact absurd (lineLength_le_iff.2 fun k => Nat.le_of_not_lt fun hm => hk ⟨k, hm⟩) (by omega)
    obtain ⟨k, hk⟩ := this
    by_cases hn : n ∈ upstream (s.leaderAfter n f) 32 k
    · refine ⟨_, isLine_upstream, hn, ?_⟩
      have hd : downstreamTo (s.leaderAfter n f) n k = (upstream (s.leaderAfter n f) 32 k).idxOf n := by
        simp [downstreamTo, hn]
      rw [length_upstream_through hs hc hn]
      omega
    · refine ⟨upstream (s.leaderAfter n f) 32 n, isLine_upstream, head_mem_upstream, ?_⟩
      simpa [downstreamTo, hn] using hk
  · rintro ⟨l, hl, hn, hm⟩
    obtain ⟨k, l, rfl⟩ := List.exists_cons_of_ne_nil (List.ne_nil_of_mem hn)
    have hp := isPrefix_upstream_of_isLine (length_upstream_lt hs hc k) hl
    exact (hm.trans_le hp.length_le).trans_le (length_upstream_le_lineLength (hp.subset hn))

end State

/-- Settles O15: where the installed lines are short no walk runs out of fuel, so that the walks find what the relations
reach. -/
theorem chainChecks : Obligations.ChainChecks := fun s _ _ =>
  ⟨fun a b => s.leaderAfter_eq_some_iff a b, fun hs =>
    ⟨State.closesLoop_iff hs, fun hc => State.lt_lineLength_iff hs hc 5⟩⟩

end Sys2Proof.Machine
end

section
/-! PROOF. The detail field and the order of the checks (R10, R12 to R14, R99 to R101). -/

namespace Sys2Proof.Machine

open Sys2Proof.Safety

/-! ## Staged sources -/

theorem slotOf_eq_some_iff (x : BitVec 6) (n : SlotIx) : slotOf x = some n ↔ n.val = x.toNat := by
  unfold slotOf
  split
  · rw [Option.some_inj, Fin.ext_iff, eq_comm]
  · have := n.isLt
    exact ⟨nofun, fun h => by omega⟩

theorem slotOf_isNone_iff (x : BitVec 6) : (slotOf x).isNone = true ↔ 31 < x.toNat := by
  unfold slotOf
  split <;> simp <;> omega

theorem exists_slotOf {x : BitVec 6} (h : x.toNat ≤ 31) : ∃ n, slotOf x = some n ∧ n.val = x.toNat :=
  ⟨⟨x.toNat, by omega⟩, (slotOf_eq_some_iff ..).2 rfl, rfl⟩

/-- R101: the source names a DISABLED slot. -/
theorem State.sourceDisabled_iff (s : State) (x : BitVec 6) :
    s.sourceDisabled x = true ↔ ∃ n : SlotIx, n.val = x.toNat ∧ (s.record n).enabled = false := by
  simp only [← slotOf_eq_some_iff, State.sourceDisabled]
  cases slotOf x <;> simp

/-! ## The detail field -/

namespace State

variable {s : State}

theorem detail_empty (h : s.staging.state = .empty) : s.detail = .none := by simp [detail, h]

theorem detail_slot {n : SlotIx} (h : s.staging.state = .loaded) (ht : s.staging.target = .slot n) :
    s.detail = s.slotDetail n s.staging.slot := by simp [detail, h, ht]

theorem detail_watch {n : RuleIx} (h : s.staging.state = .loaded) (ht : s.staging.target = .watch n) :
    s.detail = s.watchDetail s.staging.watch := by simp [detail, h, ht]

/-- R12 to R14, in the order of the checks. -/
theorem slotDetail_eq (s : State) (n : SlotIx) (f : SlotFields) :
    s.slotDetail n f =
      if 23 < f.input.toNat then .badInput
      else if f.avg.toNat ∉ [1, 2, 4, 8, 16] then .badAverage
      else if f.kind = .periodic ∧ f.period = 0 then .badPeriod
      else if f.kind = .pwm ∧ (f.decimation = 0 ∨ 16 < f.decimation.toNat) then .badDecimation
      else if f.kind = .follow ∧ f.leader = n then .leaderSelf
      else if s.closesLoop n f = true then .chainCycle
      else if 5 < s.lineLength n f then .chainTooLong
      else .none := by
  have average : (Averaging.ofCount f.avg).isNone = true ↔ f.avg.toNat ∉ [1, 2, 4, 8, 16] := by
    rw [← Averaging.ofCount_isSome_iff]
    cases Averaging.ofCount f.avg <;> simp
  exact if_congr Iff.rfl rfl (if_congr average rfl (if_congr Iff.rfl rfl (if_congr Iff.rfl rfl
    (if_congr (f.leader?_eq_some_iff n) rfl rfl))))

end State

/-! ## The watch checks -/

theorem Detail.code_injective : Function.Injective Detail.code := by
  intro a b h
  cases a <;> cases b <;> first | rfl | exact absurd h (by decide)

/-- Of the checks with codes from `m` on, `d` is the first that fails, or NONE where none fails (R10). -/
structure FirstFailing (failing : Detail → Prop) (m : Nat) (d : Detail) : Prop where
  fails : d ≠ .none → failing d
  first : ∀ e, failing e → m ≤ e.code.toNat → d ≠ .none ∧ d.code.toNat ≤ e.code.toNat

namespace FirstFailing

variable {failing : Detail → Prop} {m : Nat} {c : Prop} [Decidable c] {x d : Detail}

/-- No check is left. -/
theorem none (h : ∀ e, failing e → e.code.toNat < m) : FirstFailing failing m .none :=
  ⟨fun h => absurd rfl h, fun e he hm => absurd (h e he) (by omega)⟩

/-- The check with the next code, before the others. -/
theorem check (hc : c ↔ failing x) (hd : FirstFailing failing (m + 1) d) (hx : x.code.toNat = m := by rfl)
    (hn : x ≠ .none := by decide) : FirstFailing failing m (if c then x else d) := by
  by_cases h : c
  · rw [if_pos h]
    exact ⟨fun _ => hc.1 h, fun e _ hm => ⟨hn, by omega⟩⟩
  · rw [if_neg h]
    refine ⟨hd.fails, fun e he hm => hd.first e he (Nat.lt_of_le_of_ne hm fun hme => h (hc.2 ?_))⟩
    rwa [Detail.code_injective (BitVec.eq_of_toNat_eq (hx.trans hme))]

end FirstFailing

/-- When each check of a staged watch record fails (R99 to R101). -/
def WatchCheckFails (s : State) (f : WatchFields) : Detail → Prop
  | .badSource =>
    31 < f.srcA.toNat ∨ (f.kind = .diffAbove ∧ f.bPresent = true ∧ (31 < f.srcB.toNat ∨ f.srcB = f.srcA)) ∨
      (f.snapPresent = true ∧ 31 < f.snapSlot.toNat)
  | .bRequired => f.kind = .diffAbove ∧ f.bPresent = false
  | .bNotAllowed => ¬f.kind = .diffAbove ∧ f.bPresent = true
  | .badThreshold => (¬f.kind = .diffAbove ∧ f.t1.toInt < 0) ∨ (f.kind = .diffAbove ∧ f.t1.toInt = -4096)
  | .tOrder => (f.kind = .outside ∨ f.kind = .inside) ∧ (f.t2.toNat : Int) < f.t1.toInt
  | .emptyReleaseBand => f.emptyReleaseBand = true
  | .badCount => f.confirm = 0 ∨ f.release = 0
  | .badCapChannel => f.capPresent = true ∧ 3 < f.capChannel.toNat
  | .sourceDisabled =>
    f.pinned = true ∧ ((∃ n : SlotIx, n.val = f.srcA.toNat ∧ (s.record n).enabled = false) ∨
      (f.kind = .diffAbove ∧ ∃ n : SlotIx, n.val = f.srcB.toNat ∧ (s.record n).enabled = false))
  | _ => False

theorem WatchCheckFails.code_bounds {s : State} {f : WatchFields} {d : Detail} (h : WatchCheckFails s f d) :
    8 ≤ d.code.toNat ∧ d.code.toNat < 17 := by
  cases d <;> first | exact h.elim | decide

/-- The watch checks in the order of their codes. -/
theorem State.watchDetail_firstFailing (s : State) (f : WatchFields) :
    FirstFailing (WatchCheckFails s f) 8 (s.watchDetail f) := by
  unfold State.watchDetail
  refine .check ?source (.check ?required (.check Iff.rfl (.check Iff.rfl (.check Iff.rfl (.check Iff.rfl
    (.check Iff.rfl (.check Iff.rfl (.check ?disabled (.none fun e he => he.code_bounds.2)))))))))
  case source => simp only [WatchCheckFails, slotOf_isNone_iff]
  case required => simp [WatchCheckFails]
  case disabled => simp only [WatchCheckFails, State.sourceDisabled_iff]

/-- Settles O14: the slot checks as they stand, and the watch checks as a chain whose codes ascend. -/
theorem recordChecks : Obligations.RecordChecks := by
  refine ⟨fun s => ⟨State.detail_empty, fun _ => State.detail_slot, fun _ => State.detail_watch⟩, State.slotDetail_eq,
    fun s f => ?_⟩
  have first := s.watchDetail_firstFailing f
  exact ⟨first.fails, fun d hd => first.first d hd (WatchCheckFails.code_bounds hd).1⟩

end Sys2Proof.Machine
end

section
/-! PROOF. The refusals of COMMIT, and a COMMIT of a slot that passes its checks (R11, R15 to R19, R102). -/

namespace Sys2Proof.Machine

open Sys2Proof.Safety

/-! ## The order of the refusals -/

namespace State

variable {s t : State} {arg : Byte} {r : ResultCode}

theorem commit_empty (h : s.staging.state = .empty) : s.commit = .result s .nothingStaged := by simp [commit, h]

theorem commit_guard (h : s.staging.state = .loaded) (hm : s.mode.mode = .guard) : s.commit = .result s .guardActive := by
  simp [commit, h, hm]

theorem commit_slot {n : SlotIx} (h : s.staging.state = .loaded) (hm : s.mode.mode = .active)
    (ht : s.staging.target = .slot n) : s.commit = s.commitSlot n := by simp [commit, h, hm, ht]

theorem commit_watch {n : RuleIx} (h : s.staging.state = .loaded) (hm : s.mode.mode = .active)
    (ht : s.staging.target = .watch n) : s.commit = s.commitWatch n := by simp [commit, h, hm, ht]

/-- The row of COMMIT, from what its effect ends with. -/
theorem exec_commit (h : Ready s) (hc : s.commit = .result t r) :
    exec (.commit arg) s = .next (finished t 0x03 arg r) :=
  congrArg Host.Outcome.next (hostCommand_finished (c := .commit) h hc)

variable {n : SlotIx} {k : RuleIx}

theorem commitSlot_pinned (hp : s.pinnedSource n = true) : s.commitSlot n = .result s .pinned := if_pos hp

theorem commitSlot_invalid (hp : s.pinnedSource n = false) (hd : s.slotDetail n s.staging.slot ≠ .none) :
    s.commitSlot n = .result s .invalidRecord := by
  unfold commitSlot
  rw [hp, if_neg Bool.false_ne_true]
  split
  · contradiction
  · rfl

theorem commitSlot_ok {x : SlotRecord} (hp : s.pinnedSource n = false) (hd : s.slotDetail n s.staging.slot = .none)
    (hx : s.staging.slot.toRecord = some x) :
    s.commitSlot n = .result ((s.installSlot n x).stageInstalledSlot n x) .ok := by
  simp [commitSlot, hp, hd, hx]

theorem commitWatch_active (ha : (s.ruleRt k).state.active = true) : s.commitWatch k = .result s .ruleActive := if_pos ha

theorem commitWatch_pinned (ha : (s.ruleRt k).state.active = false) (hp : (s.rule k).pinned = true) :
    s.commitWatch k = .result s .pinned := by
  simp [commitWatch, ha, hp]

theorem commitWatch_invalid (ha : (s.ruleRt k).state.active = false) (hp : (s.rule k).pinned = false)
    (hd : s.watchDetail s.staging.watch ≠ .none) : s.commitWatch k = .result s .invalidRecord := by
  unfold commitWatch
  rw [ha, hp, if_neg Bool.false_ne_true, if_neg Bool.false_ne_true]
  split
  · contradiction
  · rfl

end State

theorem RuleState.active_of_named {x : RuleState} (h : x = .tripped ∨ x = .releasing ∨ x = .latched) :
    x.active = true := by
  obtain rfl | rfl | rfl := h <;> rfl

/-- Settles O17: what COMMIT ends with, refusal by refusal, each where no earlier one holds. -/
theorem commitRefused : Obligations.CommitRefused := by
  intro s arg hr
  refine ⟨fun h => State.exec_commit hr (State.commit_empty h),
    fun h hm => State.exec_commit hr (State.commit_guard h hm), fun h hm =>
      ⟨fun n ht => ⟨fun hp => ?source, fun hp hd => ?slotRecord⟩,
        fun k ht => ⟨fun ha => ?active, fun ha hp => ?rule, fun ha hp hd => ?watchRecord⟩⟩⟩
  case source =>
    exact State.exec_commit hr ((State.commit_slot h hm ht).trans
      (State.commitSlot_pinned ((s.pinnedSource_iff n).2 hp)))
  case slotRecord =>
    have hp' : s.pinnedSource n = false := Bool.eq_false_iff.2 fun hs => hp ((s.pinnedSource_iff n).1 hs)
    rw [State.detail_slot h ht] at hd
    exact State.exec_commit hr ((State.commit_slot h hm ht).trans (State.commitSlot_invalid hp' hd))
  case active =>
    exact State.exec_commit hr ((State.commit_watch h hm ht).trans
      (State.commitWatch_active (RuleState.active_of_named ha)))
  case rule => exact State.exec_commit hr ((State.commit_watch h hm ht).trans (State.commitWatch_pinned ha hp))
  case watchRecord =>
    rw [State.detail_watch h ht] at hd
    exact State.exec_commit hr ((State.commit_watch h hm ht).trans (State.commitWatch_invalid ha hp hd))

/-! ## The entries of a slot -/

namespace State

variable (s : State)

theorem holds_iff (n : SlotIx) : s.queue.holds n = true ↔ ∃ e ∈ entries s, e.slot = n := by
  simp only [RequestQueue.holds, List.any_eq_true, beq_iff_eq]

/-- A grant takes an entry away and adds none. -/
theorem mem_of_mem_entries_grant {e : Entry} (h : e ∈ entries s.grant) : e ∈ entries s := by
  unfold grant at h
  split at h
  · split at h
    · next hu =>
      simp only [entries, hu]
      exact List.mem_cons_of_mem _ h
    · next hu hn =>
      simp only [entries, hu, hn]
      exact List.mem_cons_of_mem _ h
    · exact h
  all_goals exact h

/-- R23: a request that finds no entry adds a plain one at most. -/
theorem mem_entries_enqueue {o : Origin} {n : SlotIx} {e : Entry} (h : e ∈ entries (s.enqueue o n)) :
    e ∈ entries s ∨ e.ctx = none := by
  have hq := mem_of_mem_entries_grant _ h
  simp only [entries, setQueue_queue, RequestQueue.enqueue] at hq
  split at hq <;> simp only [List.append_assoc, List.mem_append, List.mem_singleton] at hq ⊢
  · obtain hu | rfl | hn := hq
    · exact .inl (.inl hu)
    · exact .inr rfl
    · exact .inl (.inr hn)
  · obtain hu | hn | rfl := hq
    · exact .inl (.inl hu)
    · exact .inl (.inr hn)
    · exact .inr rfl

theorem request_of_not_holds {o : Origin} {n : SlotIx} (h : s.queue.holds n = false) :
    s.request o n = s.enqueue o n := by
  simp [request, h]

/-- R5: where no entry of the slot is a context entry, the queue status tells whether there is an entry. -/
theorem queueStatus_of_plain {n : SlotIx} (h : ∀ e ∈ entries s, e.slot = n → e.ctx = none) :
    s.queueStatus n = if (entries s).any fun e => e.slot == n then .queued else .notQueued := by
  unfold queueStatus
  split
  · next hf =>
    rw [List.find?_eq_none] at hf
    rw [if_neg fun ha => ?_]
    obtain ⟨e, he, hs⟩ := List.any_eq_true.1 ha
    exact hf e he hs
  · next e hf =>
    have hm := List.mem_of_find?_eq_some hf
    have hs : e.slot = n := by simpa using List.find?_some hf
    rw [h e hm hs, if_pos (List.any_eq_true.2 ⟨e, hm, by simpa using hs⟩)]
    rfl

end State

/-! ## The installation of a slot record -/

/-- The countdown of a slot whose record has just been installed (R19, R46). -/
def installedCountdown (r : SlotRecord) : Countdown :=
  match r.enabled, r.trigger with
  | true, .periodic period phase => ⟨.running, 10 * if phase = 0 then period.toNat else phase.toNat⟩
  | _, _ => ⟨.stopped, 0⟩

variable {r : SlotRecord} {period phase : Word}

theorem installedCountdown_periodic (he : r.enabled = true) (ht : r.trigger = .periodic period phase) :
    installedCountdown r = ⟨.running, 10 * if phase = 0 then period.toNat else phase.toNat⟩ := by
  simp [installedCountdown, he, ht]

theorem installedCountdown_other (h : ∀ p q, r.enabled = true → r.trigger = .periodic p q → False) :
    installedCountdown r = ⟨.stopped, 0⟩ := by
  unfold installedCountdown
  split
  · next he ht => exact (h _ _ he ht).elim
  · rfl

/-- R19: an ENABLED PERIODIC slot without phase is requested at once. -/
def State.requestIfDue (s : State) (n : SlotIx) (r : SlotRecord) : State :=
  match r.enabled, r.trigger with
  | true, .periodic _ phase => if phase = 0 then s.request .periodic n else s
  | _, _ => s

theorem State.requestIfDue_periodic (s : State) (n : SlotIx) (he : r.enabled = true)
    (ht : r.trigger = .periodic period phase) :
    s.requestIfDue n r = if phase = 0 then s.request .periodic n else s := by
  simp [requestIfDue, he, ht]

theorem State.requestIfDue_other (s : State) (n : SlotIx)
    (h : ∀ p q, r.enabled = true → r.trigger = .periodic p q → False) : s.requestIfDue n r = s := by
  unfold requestIfDue
  split
  · next he ht => exact (h _ _ he ht).elim
  · rfl

/-- The request, if it comes about, is all that changes (R19). -/
theorem State.requestIfDue_cases (s : State) (n : SlotIx) (r : SlotRecord) :
    s.requestIfDue n r = s.request .periodic n ∨ s.requestIfDue n r = s := by
  unfold requestIfDue
  split
  · split
    · exact .inl rfl
    · exact .inr rfl
  · exact .inr rfl

/-- The part with record `r` in slot `n`, and the slot's entries, job and result gone (R15 to R18). -/
def State.vacated (s : State) (n : SlotIx) (r : SlotRecord) : State :=
  (((s.setRecord n r).withdraw fun e => e.slot != n).withdrawJob n).setResult n .reset

/-- The part with record `r` installed for slot `n`, before the request of a periodic slot without phase (R15 to R19). -/
def State.installedBase (s : State) (n : SlotIx) (r : SlotRecord) : State :=
  { s with
    slots := { s.slots with records := s.slots.records.set n r }
    queue := { s.queue with
      urgent := s.queue.urgent.filter fun e => e.slot != n
      normal := s.queue.normal.filter fun e => e.slot != n }
    engine := { s.engine with
      state := match s.engine.state with
        | .busy j => if j.slot = n then .busy { j with withdrawn := true } else .busy j
        | .idle => .idle
        | .faulted => .faulted }
    results := { s.results with records := s.results.records.set n .reset }
    triggers := { s.triggers with
      decims := s.triggers.decims.set n 0
      countdowns := s.triggers.countdowns.set n (installedCountdown r) } }

namespace State

variable (s : State) (n : SlotIx) (r : SlotRecord)

/-- R17: only the engine's state changes, by the mark on its job. -/
theorem withdrawJob_eq : s.withdrawJob n = s.setEngine (match s.engine.state with
    | .busy j => if j.slot = n then .busy { j with withdrawn := true } else .busy j
    | .idle => .idle
    | .faulted => .faulted) := by
  unfold withdrawJob
  cases h : s.engine.state with
  | busy j =>
    have same : s = s.setEngine (.busy j) := congrArg s.setEngine h
    by_cases hj : j.slot = n
    · simp only [hj, if_true]
    · simpa only [hj, if_false] using same
  | idle => exact congrArg s.setEngine h
  | faulted => exact congrArg s.setEngine h

/-- R19, R46: in ACTIVE the triggers restart with the countdown of the record, and with its request if that is due. -/
theorem restartTriggers_eq (hm : s.mode.mode = .active) : s.restartTriggers n =
    ((s.setDecim n 0).setCountdown n (installedCountdown (s.record n))).requestIfDue n (s.record n) := by
  unfold restartTriggers
  simp only
  split
  · next period phase he ht =>
    rw [requestIfDue_periodic _ _ he ht, installedCountdown_periodic he ht]
    by_cases hp : phase = 0
    · rw [if_pos hp, if_pos hp, if_pos hp, raise_eq]
      exact if_pos ⟨he, .inl hm⟩
    · rw [if_neg hp, if_neg hp, if_neg hp]
      rfl
  · next h => rw [requestIfDue_other _ _ h, installedCountdown_other h]

theorem record_vacated : (s.vacated n r).record n = r := by
  rw [vacated, (setResult_within ..).record, (withdrawJob_within ..).record, (withdraw_within ..).record,
    record_setRecord, if_pos rfl]

theorem mode_vacated : (s.vacated n r).mode = s.mode := by
  rw [vacated, (setResult_within ..).mode, (withdrawJob_within ..).mode]
  rfl

theorem installedBase_eq :
    s.installedBase n r = ((s.vacated n r).setDecim n 0).setCountdown n (installedCountdown r) := by
  rw [vacated, withdrawJob_eq]
  rfl

/-- R15 to R19: the installation, as one update and the request that may be due. -/
theorem installSlot_eq (hm : s.mode.mode = .active) :
    s.installSlot n r = (s.installedBase n r).requestIfDue n r := by
  have hmode : (s.vacated n r).mode.mode = .active := by rw [mode_vacated]; exact hm
  have hrestart := restartTriggers_eq _ n hmode
  rwa [record_vacated, ← installedBase_eq] at hrestart

/-- R16: no entry of the slot is left. -/
theorem not_holds_installedBase : (s.installedBase n r).queue.holds n = false := by
  simp [RequestQueue.holds, installedBase]

/-- R16, R23: an entry of the slot can only be a plain one, from the request. -/
theorem ctx_of_mem_entries_installed {e : Entry} (he : e ∈ entries ((s.installedBase n r).requestIfDue n r))
    (hn : e.slot = n) : e.ctx = none := by
  have left : ∀ e ∈ entries (s.installedBase n r), e.slot ≠ n := fun e he hn =>
    Bool.eq_false_iff.1 (not_holds_installedBase s n r) ((holds_iff ..).2 ⟨e, he, hn⟩)
  obtain h | h := requestIfDue_cases (s.installedBase n r) n r <;> rw [h] at he
  · rw [request_of_not_holds _ (not_holds_installedBase s n r)] at he
    exact (mem_entries_enqueue _ he).resolve_left fun hb => left e hb hn
  · exact absurd hn (left e he)

/-- The request that may be due is taken by the queue and the engine (R23, R29). -/
theorem requestIfDue_within : Within [.queue, .engine] (s.installedBase n r) ((s.installedBase n r).requestIfDue n r) := by
  obtain h | h := requestIfDue_cases (s.installedBase n r) n r <;> rw [h]
  · rw [request_of_not_holds _ (not_holds_installedBase s n r)]
    exact enqueue_within ..
  · exact .refl

/-- R15: the snapshot that a slot COMMIT leaves. -/
theorem slotSnapshot_installed (t : State) (ht : t = (s.installedBase n r).requestIfDue n r) : t.slotSnapshot n =
    { overrun := (s.slotRt n).overrun
      outcome := (s.slotRt n).outcome
      queue := if (entries t).any fun e => e.slot == n then .queued else .notQueued
      job := t.jobStatus n } := by
  have hrt : t.slotRt n = s.slotRt n := by rw [ht, (requestIfDue_within s n r).slotRt]; rfl
  rw [slotSnapshot, hrt, queueStatus_of_plain t fun e he hn => ctx_of_mem_entries_installed s n r (ht ▸ he) hn]

/-- R15: a slot COMMIT leaves the installation and the staging buffer that shows it. -/
theorem stageInstalledSlot_eq (hm : s.mode.mode = .active) :
    (s.installSlot n r).stageInstalledSlot n r =
      { (s.installedBase n r).requestIfDue n r with staging := { s.staging with
        slot := r.toFields
        slotSnap := ((s.installedBase n r).requestIfDue n r).slotSnapshot n } } := by
  rw [installSlot_eq s n r hm, stageInstalledSlot, (requestIfDue_within s n r).staging]
  rfl

end State

/-- Settles O18: the record that the passed checks allow, and its installation as one update with the request due. -/
theorem commitSlot : Obligations.CommitSlot := by
  intro s n arg hr hl ht hm hp hd
  rw [State.detail_slot hl ht] at hd
  have checks := State.slotDetail_eq_none hd
  obtain ⟨r, hrec⟩ := SlotFields.exists_toRecord checks.input checks.average
  have hpinned : s.pinnedSource n = false := Bool.eq_false_iff.2 fun h => by
    obtain ⟨k, hk, hsrc⟩ := (s.pinnedSource_iff n).1 h
    exact hsrc.elim (hp k hk).1 (hp k hk).2
  refine ⟨r, hrec, ?_⟩
  rw [State.exec_commit hr ((State.commit_slot hl hm ht).trans (State.commitSlot_ok hpinned hd hrec)),
    State.stageInstalledSlot_eq s n r hm, State.slotSnapshot_installed s n r _ rfl]
  rfl

end Sys2Proof.Machine
end

section
/-! PROOF. Records and staged fields, field by field, and a record installed again as itself (R1, R2, R8, R15, R97). -/

namespace Sys2Proof.Machine

open Sys2Proof.Safety

/-! ## Slot records -/

theorem toNat_num {w k : Nat} (h : k < 2 ^ w) : (num w k).toNat = k := by
  rw [num, BitVec.toNat_ofNat, Nat.mod_eq_of_lt h]

theorem Averaging.count_lt (a : Averaging) : a.count < 2 ^ 5 := by cases a <;> decide

/-- R8, R15: a record's fields install it again. -/
theorem SlotRecord.toRecord_toFields (r : SlotRecord) : r.toFields.toRecord = some r := by
  have hi : (num 6 r.input).toNat = r.input := toNat_num (by omega)
  have ha : (num 5 r.avg.count).toNat = r.avg.count := toNat_num r.avg.count_lt
  rw [SlotFields.toRecord_eq_some_iff]
  obtain ⟨enabled, input, acq, res, avg, cls, trigger, capture, guard⟩ := r
  cases trigger <;> exact ⟨rfl, hi.symm, rfl, rfl, ha.symm, rfl, rfl, rfl, rfl⟩

/-! ## Watch records -/

namespace WatchFields

variable {f : WatchFields}

/-- R97: the record installed, from its parts. -/
theorem toRecord_of_parts {a : SlotIx} {kind : WatchKind} {cap : Option (ChIx × Word)} {snapshot : Option SlotIx}
    (ha : slotOf f.srcA = some a) (hk : f.watchKind = some kind) (hc : f.capPart = some cap)
    (hs : f.snapPart = some snapshot) : f.toRecord = some
      { kind := kind, srcA := a, t1 := f.t1, h := f.h, confirm := f.confirm, release := f.release
        latching := f.latching, failSafe := f.failSafe, wake := f.wake, irq := f.irq, fault := f.fault
        pinned := f.pinned, openMask := f.openMask, forceMask := f.forceMask, cap := cap, snapshot := snapshot } := by
  simp only [toRecord, ha, hk, hc, hs]

/-- R97: the kind with source B or T2 where the kind has it. -/
theorem exists_watchKind (h : f.kind = .diffAbove → f.bPresent = true ∧ f.srcB.toNat ≤ 31) :
    ∃ kind, f.watchKind = some kind ∧ match f.kind with
      | .above => kind = .above
      | .below => kind = .below
      | .outside => kind = .outside f.t2
      | .inside => kind = .inside f.t2
      | .diffAbove => ∃ b, kind = .diffAbove b ∧ b.val = f.srcB.toNat
      | .step => kind = .step := by
  unfold watchKind
  cases hk : f.kind with
  | diffAbove =>
    obtain ⟨hp, hb⟩ := h hk
    obtain ⟨b, hb, hv⟩ := exists_slotOf hb
    exact ⟨.diffAbove b, by simp [hp, hb], b, rfl, hv⟩
  | above | below | outside | inside | step => exact ⟨_, rfl, rfl⟩

/-- R97: the cap, if it is marked present. -/
theorem exists_capPart (h : f.capPresent = true → f.capChannel.toNat ≤ 3) :
    ∃ cap, f.capPart = some cap ∧ (f.capPresent = false → cap = none) ∧
      (f.capPresent = true → ∃ c, cap = some (c, f.capValue) ∧ c.val = f.capChannel.toNat) := by
  unfold capPart
  cases hp : f.capPresent with
  | false => exact ⟨none, by simp, fun _ => rfl, nofun⟩
  | true =>
    have hc : f.capChannel.toNat < 4 := Nat.lt_succ_of_le (h hp)
    exact ⟨some (⟨f.capChannel.toNat, hc⟩, f.capValue), by simp [hc], nofun, fun _ => ⟨_, rfl, rfl⟩⟩

/-- R97: the snapshot slot, if it is marked present. -/
theorem exists_snapPart (h : f.snapPresent = true → f.snapSlot.toNat ≤ 31) :
    ∃ snapshot, f.snapPart = some snapshot ∧ (f.snapPresent = false → snapshot = none) ∧
      (f.snapPresent = true → ∃ n, snapshot = some n ∧ n.val = f.snapSlot.toNat) := by
  unfold snapPart
  cases hp : f.snapPresent with
  | false => exact ⟨none, by simp, fun _ => rfl, nofun⟩
  | true =>
    obtain ⟨n, hn, hv⟩ := exists_slotOf (h hp)
    exact ⟨some n, by simp [hn], nofun, fun _ => ⟨n, rfl, hv⟩⟩

end WatchFields

theorem slotOf_num (n : SlotIx) : slotOf (num 6 n) = some n := by
  rw [slotOf_eq_some_iff, toNat_num (by omega)]

namespace WatchRecord

theorem watchKind_toFields (r : WatchRecord) : r.toFields.watchKind = some r.kind := by
  obtain ⟨kind, _⟩ := r
  cases kind with
  | diffAbove b => exact congrArg (Option.map WatchKind.diffAbove) (slotOf_num b)
  | above | below | outside | inside | step => rfl

theorem capPart_toFields (r : WatchRecord) : r.toFields.capPart = some r.cap := by
  obtain ⟨_, _, _, _, _, _, _, _, _, _, _, _, _, _, cap, _⟩ := r
  cases cap with
  | none => rfl
  | some c =>
    have hc : (num 3 c.1.val).toNat = c.1 := toNat_num (by omega)
    simp [WatchFields.capPart, toFields, hc]

theorem snapPart_toFields (r : WatchRecord) : r.toFields.snapPart = some r.snapshot := by
  obtain ⟨_, _, _, _, _, _, _, _, _, _, _, _, _, _, _, snapshot⟩ := r
  cases snapshot with
  | none => rfl
  | some n => exact congrArg (Option.map some) (slotOf_num n)

/-- R97: a record's fields install it again. -/
theorem toRecord_toFields (r : WatchRecord) : r.toFields.toRecord = some r :=
  WatchFields.toRecord_of_parts (slotOf_num r.srcA) r.watchKind_toFields r.capPart_toFields r.snapPart_toFields

end WatchRecord

/-- Settles O13: each record is taken apart by the kind it has, and put together from its parts. -/
theorem recordRoundTrip : Obligations.RecordRoundTrip := by
  refine ⟨⟨?slotFields, ?slotRecord, rfl, SlotRecord.toRecord_toFields⟩, ?watchFields, ?watchRecord,
    WatchRecord.toRecord_toFields⟩
  case slotFields =>
    rintro ⟨enabled, input, acq, res, avg, cls, trigger, capture, guard⟩
    cases trigger <;> rfl
  case slotRecord =>
    intro f hi ha
    obtain ⟨r, hr⟩ := SlotFields.exists_toRecord (Nat.lt_succ_of_le hi) ((Averaging.ofCount_isSome_iff _).2 ha)
    obtain ⟨he, hin, hacq, hres, havg, hcls, ht, hcap, hg⟩ := (f.toRecord_eq_some_iff r).1 hr
    exact ⟨r, hr, he.symm, hin, hacq.symm, hres.symm, havg, hcls.symm, hcap.symm, hg.symm, ht.symm⟩
  case watchFields =>
    rintro ⟨kind, srcA, t1, h, confirm, release, latching, failSafe, wake, irq, fault, pinned, openMask, forceMask, cap,
      snapshot⟩
    cases kind <;> cases cap <;> cases snapshot <;> rfl
  case watchRecord =>
    intro f ha hb hc hs
    obtain ⟨a, hsrc, hav⟩ := exists_slotOf ha
    obtain ⟨kind, hkind, hk⟩ := WatchFields.exists_watchKind hb
    obtain ⟨cap, hcap, hno, hyes⟩ := WatchFields.exists_capPart hc
    obtain ⟨snap, hsnap, hnone, hsome⟩ := WatchFields.exists_snapPart hs
    exact ⟨_, WatchFields.toRecord_of_parts hsrc hkind hcap hsnap, hav, rfl, rfl, rfl, rfl, rfl, rfl, rfl, rfl, rfl, rfl,
      rfl, rfl, hk, hno, hyes, hnone, hsome⟩

end Sys2Proof.Machine
end

section
/-! SUPPORT. The codes of enumerated fields, and words as sums of their fields (11.6.1, 11.6.2). -/

namespace Sys2Proof.Machine

open Sys2Proof.Safety

/-! ## Codes are places in the lists of the statements -/

@[simp] theorem PClass.toNat_code (x : PClass) : x.code.toNat = classes.idxOf x := by cases x <;> rfl

@[simp] theorem Resolution.toNat_code (x : Resolution) : x.code.toNat = [Resolution.bits12, .bits10].idxOf x := by
  cases x <;> rfl

@[simp] theorem Edge.toNat_code (x : Edge) : x.code.toNat = [Edge.rising, .falling, .both].idxOf x := by cases x <;> rfl

@[simp] theorem toNat_pinCode (x : TrgPin) : (pinCode x).toNat = [TrgPin.trg0, .trg1].idxOf x := by cases x <;> rfl

@[simp] theorem TriggerKind.toNat_code (x : TriggerKind) : x.code.toNat = kinds.idxOf x := by cases x <;> rfl

@[simp] theorem WatchKindCode.toNat_code (x : WatchKindCode) : x.code.toNat = watchKinds.idxOf x := by cases x <;> rfl

@[simp] theorem LastOutcome.toNat_code (x : LastOutcome) : x.code.toNat = outcomes.idxOf x := by cases x <;> rfl

@[simp] theorem QueueStatus.toNat_code (x : QueueStatus) : x.code.toNat = queueStatuses.idxOf x := by cases x <;> rfl

@[simp] theorem JobStatus.toNat_code (x : JobStatus) : x.code.toNat = jobStatuses.idxOf x := by cases x <;> rfl

@[simp] theorem RuleState.toNat_code (x : RuleState) : x.code.toNat = ruleStates.idxOf x := by cases x <;> rfl

@[simp] theorem StagingState.toNat_code (x : StagingState) : x.code.toNat = [StagingState.empty, .loaded].idxOf x := by
  cases x <;> rfl

@[simp] theorem Detail.toNat_code (x : Detail) : x.code.toNat = details.idxOf x := by cases x <;> rfl

/-- The writable staging registers show the staged fields, put together from the highest to the lowest (11.6.2). -/
theorem fieldWords (g : Staging) : FieldWords g where
  slotA := by
    rw [shows, Staging.read]
    repeat rw [toNat_join]
    simp
    omega
  slotB := by
    rw [shows, Staging.read]
    repeat rw [toNat_join]
    simp
    omega
  leader := by
    simp [shows, Staging.read]
    omega
  period := rfl
  phase := rfl
  watchA := by
    rw [shows, Staging.read]
    repeat rw [toNat_join]
    simp
    omega
  watchT1 := BitVec.toInt_signExtend_of_le (by decide)
  watchT2 := by
    simp [shows, Staging.read]
    omega
  watchH := by
    simp [shows, Staging.read]
    omega
  watchCount := by
    rw [shows, Staging.read]
    repeat rw [toNat_join]
    simp
    omega
  watchAct := by
    rw [shows, Staging.read]
    repeat rw [toNat_join]
    simp
    omega
  watchCapv := rfl
  watchSnap := by
    rw [shows, Staging.read]
    repeat rw [toNat_join]
    simp

/-! ## A write of a staging register -/

section Fields

variable (d : Word) (n : Nat)

theorem toNat_field_low : (field d 0 n).toNat = d.toNat % 2 ^ n := by
  rw [BitVec.extractLsb'_toNat, Nat.shiftRight_zero]

/-- The bits of a mask of `n` low ones are the low field. -/
theorem toNat_and_low (m : Word) (hm : m.toNat = 2 ^ n - 1) : (d &&& m).toNat = (field d 0 n).toNat := by
  rw [BitVec.toNat_and, hm, Nat.and_two_pow_sub_one_eq_mod, toNat_field_low]

end Fields

/-- R7: an undefined edge code leaves the field. -/
theorem Edge.code_getD_ofCode (c : BitVec 2) (e : Edge) :
    ((Edge.ofCode c).getD e).code = if c = 3 then e.code else c := by
  cases e <;> revert c <;> decide

/-- R7: an undefined trigger kind leaves the field. -/
theorem TriggerKind.code_getD_ofCode (c : BitVec 3) (k : TriggerKind) :
    ((TriggerKind.ofCode c).getD k).code = if 4 < c.toNat then k.code else c := by
  cases k <;> revert c <;> decide

/-- R7: an undefined watch kind leaves the field. -/
theorem WatchKindCode.code_getD_ofCode (c : BitVec 3) (k : WatchKindCode) :
    ((WatchKindCode.ofCode c).getD k).code = if 5 < c.toNat then k.code else c := by
  cases k <;> revert c <;> decide

theorem PClass.code_ofBit (b : Bool) : (if b = true then PClass.urgent else .normal).code = bit b := by cases b <;> rfl

theorem Resolution.code_ofBit (b : Bool) : (if b = true then Resolution.bits10 else .bits12).code = bit b := by
  cases b <;> rfl

theorem pinCode_ofBit (b : Bool) : pinCode (if b = true then TrgPin.trg1 else .trg0) = bit b := by cases b <;> rfl

namespace Staging

variable (g : Staging) (d : Word)

theorem kind_of_slotB : field (g.read .slotB) 0 3 = g.slot.kind.code := field_lo _ _

theorem edge_of_slotB : field (g.read .slotB) 6 2 = g.slot.edge.code := by
  rw [read, field_up _ _ 3, field_up _ _ 2, field_up _ _ 1, field_up _ _ 0, field_lo]

theorem kind_of_watchA : field (g.read .watchA) 0 3 = g.watch.kind.code := field_lo _ _

theorem read_write_slotA : (g.write .slotA d).read .slotA = d := by
  simp only [write, read, SlotFields.write, PClass.code_ofBit, Resolution.code_ofBit, bit_field]
  rw [field_join d 10 1 5, field_join d 9 6 1, field_join d 6 7 3, field_join d 0 10 6]
  exact field_whole d

theorem read_write_slotB : (g.write .slotB d).read .slotB = staged .slotB d (g.read .slotB) := by
  rw [staged, kind_of_slotB, edge_of_slotB]
  simp only [write, read, SlotFields.write, Edge.code_getD_ofCode, TriggerKind.code_getD_ofCode, pinCode_ofBit,
    bit_field]
  have upper : field d 8 8 = field d 15 1 ++ field d 10 5 ++ field d 8 2 := by
    rw [field_join d 10 1 5, field_join d 8 6 2]
  have middle : field d 3 3 = field d 5 1 ++ field d 4 1 ++ field d 3 1 := by
    rw [field_join d 4 1 1, field_join d 3 2 1]
  refine BitVec.eq_of_toNat_eq ?_
  rw [upper, middle]
  repeat rw [toNat_join]
  simp
  omega

theorem read_write_watchA : (g.write .watchA d).read .watchA = staged .watchA d (g.read .watchA) := by
  rw [staged, kind_of_watchA]
  simp only [write, read, WatchFields.write, WatchKindCode.code_getD_ofCode, bit_field]
  rw [field_join d 4 6 6, field_join d 3 12 1]

theorem read_write_watchCount : (g.write .watchCount d).read .watchCount = staged .watchCount d (g.read .watchCount) := by
  have low : field d 0 14 = field d 13 1 ++ field d 12 1 ++ field d 11 1 ++ field d 10 1 ++ field d 9 1 ++ field d 8 1 ++
      field d 4 4 ++ field d 0 4 := by
    rw [field_join d 12 1 1, field_join d 11 2 1, field_join d 10 3 1, field_join d 9 4 1, field_join d 8 5 1,
      field_join d 4 6 4, field_join d 0 10 4]
  refine BitVec.eq_of_toNat_eq ?_
  rw [staged, toNat_and_low d 14 _ rfl, low]
  simp only [write, read, WatchFields.write, bit_field]
  repeat rw [toNat_join]
  simp

theorem read_write_watchAct : (g.write .watchAct d).read .watchAct = staged .watchAct d (g.read .watchAct) := by
  have low : field d 0 12 = field d 9 3 ++ field d 8 1 ++ field d 4 4 ++ field d 0 4 := by
    rw [field_join d 8 3 1, field_join d 4 4 4, field_join d 0 8 4]
  refine BitVec.eq_of_toNat_eq ?_
  rw [staged, toNat_and_low d 12 _ rfl, low]
  simp only [write, read, WatchFields.write, bit_field]
  repeat rw [toNat_join]
  simp

theorem read_write_watchSnap : (g.write .watchSnap d).read .watchSnap = staged .watchSnap d (g.read .watchSnap) := by
  have low : field d 0 7 = field d 6 1 ++ field d 0 6 := by rw [field_join d 0 1 6]
  refine BitVec.eq_of_toNat_eq ?_
  rw [staged, toNat_and_low d 7 _ rfl, low]
  simp only [write, read, WatchFields.write, bit_field]
  repeat rw [toNat_join]
  simp

/-- R7: a written register reads the staged fields of the data. -/
theorem read_write (r : StgReg) : (g.write r d).read r = staged r d (g.read r) := by
  cases r with
  | slotA => exact g.read_write_slotA d
  | slotB => exact g.read_write_slotB d
  | watchA => exact g.read_write_watchA d
  | leader =>
    refine BitVec.eq_of_toNat_eq ?_
    rw [staged, toNat_and_low d 5 _ rfl]
    exact toNat_num (by omega)
  | watchT2 =>
    refine BitVec.eq_of_toNat_eq ?_
    rw [staged, toNat_and_low d 12 _ rfl]
    exact BitVec.toNat_setWidth_of_le (by decide)
  | watchH =>
    refine BitVec.eq_of_toNat_eq ?_
    rw [staged, toNat_and_low d 10 _ rfl]
    exact BitVec.toNat_setWidth_of_le (by decide)
  | watchCount => exact g.read_write_watchCount d
  | watchAct => exact g.read_write_watchAct d
  | watchSnap => exact g.read_write_watchSnap d
  | period | phase | watchT1 | watchCapv => rfl

/-- R7: every other register reads as before. -/
theorem read_write_other {q r : StgReg} (h : q ≠ r) : (g.write r d).read q = g.read q := by
  cases r <;> cases q <;> first | rfl | exact absurd rfl h

end Staging

/-- Settles O11: the words of the fields, and the written register apart from the others. -/
theorem stagingWrite : Obligations.StagingWrite := by
  refine ⟨fieldWords, fun s r d hr => ⟨s.staging.write r d, ?_, rfl, rfl, rfl, rfl, s.staging.read_write d r,
    fun _ hq => s.staging.read_write_other d hq⟩⟩
  rw [← stgAddr_eq]
  exact congrArg Host.Outcome.next (State.hostWrite_answered hr _ _ _)

end Sys2Proof.Machine
end

section
/-! PROOF. LOAD_SLOT and LOAD_WATCH, the two status values of a slot, and the words of STG_STATUS and the snapshots
(R5, R6, R8 to R10). -/

namespace Sys2Proof.Machine

open Sys2Proof.Safety

/-! ## Status values -/

namespace State

variable {s : State} {n : SlotIx} {e : Entry}

/-- R22: an entry of the slot is the one the status speaks of. -/
theorem queueStatus_of_mem (hq : ((entries s).map Entry.slot).Nodup) (he : e ∈ entries s) (hn : e.slot = n) :
    s.queueStatus n = if e.ctx.isSome then .suspended else .queued := by
  unfold queueStatus
  split
  · next hf => exact absurd (List.find?_eq_none.1 hf e he) (by simpa using hn)
  · next e' hf =>
    have hs : e'.slot = n := by simpa using List.find?_some hf
    have : e' = e := List.inj_on_of_nodup_map hq (List.mem_of_find?_eq_some hf) he (hs.trans hn.symm)
    rw [this]

theorem queueStatus_of_forall_ne (h : ∀ e ∈ entries s, e.slot ≠ n) : s.queueStatus n = .notQueued := by
  unfold queueStatus
  rw [List.find?_eq_none.2 fun e he => by simpa using h e he]

/-- R5: a slot has no entry, a plain entry or a context entry, and the status tells which. -/
theorem queueStatus_iff (hq : ((entries s).map Entry.slot).Nodup) :
    (s.queueStatus n = .notQueued ↔ ∀ e ∈ entries s, e.slot ≠ n) ∧
      (s.queueStatus n = .queued ↔ ∃ e ∈ entries s, e.slot = n ∧ e.ctx = none) ∧
        (s.queueStatus n = .suspended ↔ ∃ e ∈ entries s, e.slot = n ∧ e.ctx ≠ none) := by
  by_cases h : ∃ e ∈ entries s, e.slot = n
  · obtain ⟨e, he, hn⟩ := h
    have only : ∀ x ∈ entries s, x.slot = n → x = e := fun x hx hxn =>
      List.inj_on_of_nodup_map hq hx he (hxn.trans hn.symm)
    have some : ∀ p : Entry → Prop, (∃ x ∈ entries s, x.slot = n ∧ p x) ↔ p e := fun p =>
      ⟨fun ⟨x, hx, hxn, hp⟩ => only x hx hxn ▸ hp, fun hp => ⟨e, he, hn, hp⟩⟩
    have notNone : ¬∀ e ∈ entries s, e.slot ≠ n := fun hno => hno e he hn
    rw [queueStatus_of_mem hq he hn, some, some]
    cases e.ctx <;> simpa using notNone
  · have none : ∀ e ∈ entries s, e.slot ≠ n := fun e he hn => h ⟨e, he, hn⟩
    rw [queueStatus_of_forall_ne none]
    refine ⟨⟨fun _ => none, fun _ => rfl⟩, ⟨nofun, ?_⟩, ⟨nofun, ?_⟩⟩
    all_goals
      rintro ⟨e, he, hn, -⟩
      exact absurd hn (none e he)

theorem jobStatus_active_iff :
    s.jobStatus n = .active ↔ ∃ j, s.engine.state = .busy j ∧ j.slot = n ∧ j.withdrawn = false := by
  unfold jobStatus
  cases s.engine.state with
  | idle | faulted => simp
  | busy j => by_cases hj : j.slot = n <;> cases hw : j.withdrawn <;> simp [hj, hw]

theorem jobStatus_withdrawn_iff :
    s.jobStatus n = .withdrawn ↔ ∃ j, s.engine.state = .busy j ∧ j.slot = n ∧ j.withdrawn = true := by
  unfold jobStatus
  cases s.engine.state with
  | idle | faulted => simp
  | busy j => by_cases hj : j.slot = n <;> cases hw : j.withdrawn <;> simp [hj, hw]

end State

/-! ## Words -/

theorem hi_append_lo (t : Time) : hi t ++ lo t = t := (field_join t 0 16 16).trans (field_whole t)

theorem stagingWords (s : State) : StagingWords s where
  status := by
    rw [Reg.value]
    cases s.staging.target with
    | slot n =>
      rw [shows, Target.index, Target.kindCode]
      repeat rw [toNat_join]
      simp
      omega
    | watch n =>
      rw [shows, Target.index, Target.kindCode]
      repeat rw [toNat_join]
      simp
      omega
  slotRuntime h := by
    rw [shows, Reg.value, SlotSnapshot.word]
    repeat rw [toNat_join]
    simp
    omega
  ruleRuntime h := by
    rw [shows, Reg.value, RuleRuntime.word]
    repeat rw [toNat_join]
    simp
    omega
  previous := by
    rw [Reg.value, RuleRuntime.previousWord]
    cases s.staging.watchSnap.previous with
    | none => rfl
    | some v =>
      simp [shows]
      omega
  trips h := by
    simp [shows, Reg.value]
    omega
  lastTrip time h := by
    rw [Reg.value, Reg.value, hi_append_lo, RuleRuntime.tripTime, h]
    rfl
  noTrip h := by
    rw [Reg.value, Reg.value, RuleRuntime.tripTime, h]
    exact ⟨rfl, rfl⟩

/-- Settles O12: the two loads end with the buffer they fill, and each status value is told by the slot's entry or job. -/
theorem loadCommands : Obligations.LoadCommands := by
  refine ⟨⟨fun s n hr => ?slot, fun s n hr => ?watch, fun s b hr => ⟨fun hb => ?badSlot, fun hb => ?badWatch⟩⟩,
    fun s n hq => ?status, stagingWords⟩
  case slot =>
    exact congrArg Host.Outcome.next (State.hostCommand_finished (c := .loadSlot) hr (withIndex_num (by decide) n))
  case watch =>
    exact congrArg Host.Outcome.next (State.hostCommand_finished (c := .loadWatch) hr (withIndex_num (by decide) n))
  case badSlot =>
    exact congrArg Host.Outcome.next (State.hostCommand_finished (c := .loadSlot) hr (withIndex_ge hb))
  case badWatch =>
    exact congrArg Host.Outcome.next (State.hostCommand_finished (c := .loadWatch) hr (withIndex_ge hb))
  case status =>
    obtain ⟨none, queued, suspended⟩ := State.queueStatus_iff (n := n) hq.1
    exact ⟨none, queued, suspended, State.jobStatus_active_iff, State.jobStatus_withdrawn_iff⟩

end Sys2Proof.Machine
end

section
/-! SUPPORT. What deliveries, trigger sources and GUARD exits can do to the queue, the engine, the table and the mode:
requests under R45 and a change to ACTIVE, and nothing else. -/

namespace Sys2Proof.Safety

open Sys2Proof.Machine

/-- The blocks that the law of the queue and the engine does not speak of. -/
abbrev asideBlocks : List Block :=
  [.staging, .triggers, .results, .fifo, .watch, .tripLog, .switches, .pwm, .events, .port, .choices, .pending]

/-- The second state comes of the first by requests under R45 (also snapshot requests, R58), changes of mode to ACTIVE
(R180, R181), and changes of the blocks aside. -/
inductive Sourced (s : State) : State → Prop
  | refl : Sourced s s
  | aside {t u : State} (h : Sourced s t) (k : Within asideBlocks t u) : Sourced s u
  | raise {t : State} (h : Sourced s t) (o : Origin) (n : SlotIx) : Sourced s (t.raise o n)
  | active {t : State} (h : Sourced s t) (m : ModeControl) (hm : m.mode = .active) : Sourced s (t.setMode m)

namespace Sourced

variable {s t u : State} {bs : List Block}

theorem trans (h : Sourced s t) (k : Sourced t u) : Sourced s u := by
  induction k with
  | refl => exact h
  | aside _ k ih => exact ih.aside k
  | raise _ o n ih => exact ih.raise o n
  | active _ m hm ih => exact ih.active m hm

theorem of_within (h : Within bs s t) (hb : bs ⊆ asideBlocks := by decide) : Sourced s t := .aside .refl (h.mono hb)

theorem ite {c : Prop} [Decidable c] (h : Sourced s t) (k : Sourced s u) : Sourced s (if c then t else u) := by
  split <;> assumption

theorem foldl {α : Type} {f : State → α → State} (h : ∀ s a, Sourced s (f s a)) (l : List α) (s : State) :
    Sourced s (l.foldl f s) := by
  induction l generalizing s with
  | nil => exact refl
  | cons a l ih => exact (h s a).trans (ih _)

end Sourced

end Sys2Proof.Safety

namespace Sys2Proof.Machine.State

open Sys2Proof.Safety

variable (s : State)

/-! ## Trigger sources -/

theorem raise_sourced (o n) : Sourced s (s.raise o n) := .raise .refl o n

theorem raiseAll_sourced (o f) : Sourced s (s.raiseAll o f) :=
  .foldl (fun t n => .ite (raise_sourced t o n) .refl) _ _

theorem expire_sourced (n) : Sourced s (s.expire n) := by
  unfold expire
  split
  · exact .trans (.of_within (setCountdown_within ..)) (raise_sourced ..)
  all_goals exact .refl

theorem edge_sourced (pin l) : Sourced s (s.edge pin l) :=
  .ite (.of_within (setTriggers_within ..))
    (.trans (.of_within (setTriggers_within ..)) (.trans (.of_within (setTriggers_within ..)) (raiseAll_sourced ..)))

theorem countPoint_sourced (c n) : Sourced s (countPoint c s n) := by
  unfold countPoint
  split
  · exact .ite (.ite (.trans (.of_within (setDecim_within ..)) (raise_sourced ..)) (.of_within (setDecim_within ..))) .refl
  all_goals exact .refl

theorem triggerPoint_sourced (c) : Sourced s (s.triggerPoint c) := .foldl (fun t n => countPoint_sourced t c n) _ _

/-! ## PWM channels -/

theorem pointAtStart_sourced (c) : Sourced s (s.pointAtStart c) := .ite (triggerPoint_sourced ..) .refl

theorem startPeriod_sourced (c) : Sourced s (s.startPeriod c) :=
  .trans (.of_within (setChannel_within ..)) (pointAtStart_sourced ..)

theorem periodEnd_sourced (c) : Sourced s (s.periodEnd c) :=
  .ite (.trans (.of_within (setChannel_within ..)) (pointAtStart_sourced ..)) .refl

theorem pointReached_sourced (c) : Sourced s (s.pointReached c) :=
  .ite (.trans (.of_within (setChannel_within ..)) (triggerPoint_sourced ..)) .refl

theorem writePwmCtrl_sourced (c d) : Sourced s (writePwmCtrl c d s) := by
  have store : ∀ (t : State) (x : Channel), Sourced t (t.setChannel c x) := fun t x => .of_within (setChannel_within ..)
  unfold writePwmCtrl
  simp only
  split
  · exact .ite ((store ..).trans (startPeriod_sourced ..)) (store ..)
  · exact (store ..).trans (store ..)
  all_goals exact store ..

/-! ## GUARD exits -/

theorem takeReleased_sourced (o) : Sourced s (s.takeReleased o) := by
  cases o with
  | expiry n => exact expire_sourced ..
  | point c => exact triggerPoint_sourced ..

theorem takeAllReleased_sourced (k os) : Sourced s (takeAllReleased k os s) := by
  induction k generalizing os s with
  | zero => exact .refl
  | succ k ih =>
    match os with
    | [] => exact .refl
    | [o] => exact takeReleased_sourced s o
    | o :: p :: os => exact .trans (.of_within (useChoice_within s)) ((takeReleased_sourced ..).trans (ih _ _))

theorem leaveGuard_sourced (c) : Sourced s (s.leaveGuard c) := by
  unfold leaveGuard
  exact .trans (.active .refl _ rfl) (.trans (.of_within (occur_within ..))
    (.trans (.of_within (thawCountdowns_within _)) (.trans (.of_within (startChannels_within _))
      (takeAllReleased_sourced ..))))

theorem wakeExit_sourced (r) : Sourced s (s.wakeExit r) := by
  unfold wakeExit
  split
  · exact leaveGuard_sourced ..
  · exact .refl

/-! ## Watch rules and deliveries -/

theorem snapshotRequest_sourced (n) : Sourced s (s.snapshotRequest n) := by
  unfold snapshotRequest
  split
  · exact raise_sourced ..
  · exact .refl

theorem snapshotAndExit_sourced (n) : Sourced s (s.snapshotAndExit n) := by
  have irq : ∀ (t : State) b, Sourced t (t.occurIf b .watchTrip) := fun t b => .of_within (occurIf_within ..)
  have used : Sourced s s.useChoice := .of_within (useChoice_within s)
  unfold snapshotAndExit
  exact .ite
    (.ite
      (.ite (used.trans ((snapshotRequest_sourced ..).trans ((irq ..).trans (wakeExit_sourced ..))))
        (used.trans ((irq ..).trans ((wakeExit_sourced ..).trans (snapshotRequest_sourced ..)))))
      ((irq ..).trans (wakeExit_sourced ..)))
    ((snapshotRequest_sourced ..).trans (irq ..))

theorem trip_sourced (n res) : Sourced s (s.trip n res) := by
  have mark : ∀ (t : State) (x : RuleRuntime), Sourced t (t.setRuleRt n x) := fun t x => .of_within (setRuleRt_within ..)
  unfold trip
  exact .trans (mark ..) (.trans (.of_within (placeClaims_within ..)) (.trans (.of_within (faultUpdate_within _))
    (.trans (.of_within (logTrip_within ..)) (.trans (mark ..) ((snapshotAndExit_sourced ..).trans (mark ..))))))

theorem judge_sourced (n res) : Sourced s (s.judge n res) := by
  have count : ∀ run, Sourced s (s.countQualifying n res run) := fun run =>
    .ite (trip_sourced ..) (.of_within (moveRule_within ..))
  unfold judge
  split
  all_goals first
    | exact .refl
    | exact count _
    | exact .of_within (countReleasing_within ..)
    | exact .of_within (moveRule_within ..)

theorem evaluateRules_sourced (a res) : Sourced s (s.evaluateRules a res) :=
  .foldl (fun t n => .ite ((judge_sourced t n res).trans (.of_within (keepPrevious_within ..))) .refl) _ _

theorem deliver_sourced (d) : Sourced s (s.deliver d) := by
  unfold deliver
  exact .trans (.of_within (writeResult_within ..)) (.trans (.of_within (captureResult_within ..))
    ((evaluateRules_sourced ..).trans (raiseAll_sourced ..)))

end Sys2Proof.Machine.State
end

section
/-! SUPPORT. The law of the queue and the engine in two parts: what waits (R21, R22, R28), and what the engine's job keeps
to (R30, R33, R60). -/

namespace Sys2Proof.Safety

open Sys2Proof.Machine

/-- What the law says of the entries that wait, whatever the engine does. -/
structure WaitingLaw (s : State) : Prop where
  shape : QueueShape s
  context : ContextShape s
  guarded : s.mode.mode = .guard → ∀ e ∈ entries s, (s.record e.slot).guard = true

/-- What the law says of the job in the engine. -/
structure RunningLaw (s : State) (j : Job) : Prop where
  shape : JobShape s j
  apart : ContextApart s j
  guarded : s.mode.mode = .guard → (s.record j.slot).guard = true

/-- The entry's resume context, if it has one, holds a part of the slot's burst (R21). -/
abbrev HoldsPart (s : State) (e : Entry) : Prop :=
  ∀ c ∈ e.ctx, 1 ≤ c.done ∧ c.done < (s.record e.slot).avg.count ∧ c.sum ≤ 4095 * c.done

variable {s t : State} {j : Job}

namespace QueueLaw

theorem waiting (h : QueueLaw s) : WaitingLaw s := by
  obtain ⟨shape, context, -, guarded⟩ := h
  exact ⟨shape, context, fun hm => (guarded hm).1⟩

theorem running (h : QueueLaw s) (hb : s.engine.state = .busy j) : RunningLaw s j := by
  obtain ⟨-, -, engine, guarded⟩ := h
  rw [EngineShape, hb] at engine
  exact ⟨engine.1, engine.2, fun hm => (guarded hm).2 j hb⟩

theorem idle (h : QueueLaw s) (hi : s.engine.state = .idle) : s.queue.urgent = [] ∧ s.queue.normal = [] := by
  obtain ⟨-, -, engine, -⟩ := h
  rwa [EngineShape, hi] at engine

end QueueLaw

namespace WaitingLaw

theorem busy (h : WaitingLaw s) (hb : s.engine.state = .busy j) (k : RunningLaw s j) : QueueLaw s := by
  refine ⟨h.shape, h.context, ?_, fun hm => ⟨h.guarded hm, fun i hi => ?_⟩⟩
  · rw [EngineShape, hb]
    exact ⟨k.shape, k.apart⟩
  · rw [hb] at hi
    cases hi
    exact k.guarded hm

theorem faulted (h : WaitingLaw s) (hf : s.engine.state = .faulted) : QueueLaw s := by
  refine ⟨h.shape, h.context, ?_, fun hm => ⟨h.guarded hm, fun i hi => ?_⟩⟩
  · rw [EngineShape, hf]
    trivial
  · rw [hf] at hi
    cases hi

theorem idle (h : WaitingLaw s) (hi : s.engine.state = .idle) (he : s.queue.urgent = [] ∧ s.queue.normal = []) :
    QueueLaw s := by
  refine ⟨h.shape, h.context, ?_, fun hm => ⟨h.guarded hm, fun i hb => ?_⟩⟩
  · rwa [EngineShape, hi]
  · rw [hi] at hb
    cases hb

/-- Entries that leave, the others staying in order, with the records of those that stay. -/
theorem shrink (h : WaitingLaw s) (hu : t.queue.urgent.Sublist s.queue.urgent)
    (hn : t.queue.normal.Sublist s.queue.normal) (hr : ∀ e ∈ entries t, t.record e.slot = s.record e.slot)
    (hm : t.mode.mode = .guard → ∀ e ∈ entries t, (t.record e.slot).guard = true) : WaitingLaw t := by
  obtain ⟨⟨nodup, urgent, normal, cls⟩, ⟨plain, part⟩, -⟩ := h
  have hall := hu.append hn
  refine ⟨⟨(hall.map _).nodup nodup, fun e he => urgent e (hu.subset he), fun e he => normal e (hn.subset he),
    fun e he => ?_⟩, ⟨fun e he => plain e ((hu.append hn.tail).subset he), fun e he c hc => ?_⟩, hm⟩
  · rw [hr e he]
    exact cls e (hall.subset he)
  · rw [hr e (List.mem_append_right _ he)]
    exact part e (hn.subset he) c hc

/-- A new entry anywhere: what is to be said of the places, and of the entry itself. -/
theorem insert (h : WaitingLaw s) {urgent normal : List Entry} {e : Entry}
    (hperm : (urgent ++ normal).Perm (e :: entries s)) (hu : ∀ x ∈ urgent, x.cls = .urgent)
    (hn : ∀ x ∈ normal, x.cls = .normal) (hplain : ∀ x ∈ urgent ++ normal.tail, x.ctx = none)
    (hpart : HoldsPart s e) (hnew : ∀ x ∈ entries s, x.slot ≠ e.slot) (hcls : e.cls = (s.record e.slot).cls)
    (hguard : s.mode.mode = .guard → (s.record e.slot).guard = true) : WaitingLaw (s.setSublists urgent normal) := by
  obtain ⟨⟨nodup, hurgent, -, cls⟩, ⟨-, part⟩, guarded⟩ := h
  have hmem : ∀ {x}, x ∈ urgent ++ normal → x = e ∨ x ∈ entries s := fun hx => List.mem_cons.1 (hperm.subset hx)
  refine ⟨⟨(hperm.map _).nodup_iff.2 (List.nodup_cons.2 ⟨fun hs => ?_, nodup⟩), hu, hn, fun x hx => ?_⟩,
    ⟨hplain, fun x hx => ?_⟩, fun hm x hx => ?_⟩
  · obtain ⟨x, hx, hs⟩ := List.mem_map.1 hs
    exact hnew x hx hs
  · obtain rfl | hx := hmem hx
    · exact hcls
    · exact cls x hx
  · obtain rfl | hs := hmem (List.mem_append_right _ hx)
    · exact hpart
    · refine part x ((List.mem_append.1 hs).resolve_left fun hxu => ?_)
      cases (hurgent x hxu).symm.trans (hn x hx)
  · obtain rfl | hx := hmem hx
    · exact hguard hm
    · exact guarded hm x hx

/-- A plain entry that joins the tail of the sub-list of its class (R23). -/
theorem enqueue (h : WaitingLaw s) {e : Entry} (hnew : ∀ x ∈ entries s, x.slot ≠ e.slot)
    (hcls : e.cls = (s.record e.slot).cls) (hctx : e.ctx = none)
    (hguard : s.mode.mode = .guard → (s.record e.slot).guard = true) : WaitingLaw (s.setQueue (s.queue.enqueue e)) := by
  obtain ⟨-, urgent, normal, -⟩ := h.shape
  have plain := h.context.1
  simp only [List.forall_mem_append] at plain
  have hpart : HoldsPart s e := by simp [HoldsPart, hctx]
  cases hk : e.cls
  case urgent =>
    have tail : s.setQueue (s.queue.enqueue e) = s.setSublists (s.queue.urgent ++ [e]) s.queue.normal := by
      simp only [RequestQueue.enqueue, hk, State.setSublists, State.setQueue]
    rw [tail]
    refine h.insert ?_ ?_ normal ?_ hpart hnew hcls hguard
    · simp
    · simpa [or_imp, forall_and, hk] using urgent
    · simpa [or_imp, forall_and, hctx] using plain
  case normal =>
    have tail : s.setQueue (s.queue.enqueue e) = s.setSublists s.queue.urgent (s.queue.normal ++ [e]) := by
      simp only [RequestQueue.enqueue, hk, State.setSublists, State.setQueue]
    rw [tail]
    refine h.insert ?_ urgent ?_ ?_ hpart hnew hcls hguard
    · rw [← List.append_assoc]
      exact List.perm_append_singleton ..
    · simpa [or_imp, forall_and, hk] using normal
    · cases hq : s.queue.normal
      · simpa [hq] using plain.1
      · simpa [hq, or_imp, forall_and, hctx] using plain

end WaitingLaw

end Sys2Proof.Safety
end

section
/-! SUPPORT. Grants, requests and suspensions, and what becomes of the law of the queue and the engine (R23, R24, R29, R31 to
R34). -/

namespace Sys2Proof.Safety

open Sys2Proof.Machine

variable {s t : State} {j : Job} {e : Entry}

/-! ## What the law reads -/

/-- The law reads the records, the sub-lists, the engine's state and the mode. -/
theorem QueueLaw.congr (h : QueueLaw s) (hr : ∀ n, t.record n = s.record n) (hu : t.queue.urgent = s.queue.urgent)
    (hn : t.queue.normal = s.queue.normal) (he : t.engine.state = s.engine.state) (hm : t.mode.mode = s.mode.mode) :
    QueueLaw t := by
  simpa only [QueueLaw, QueueShape, ContextShape, EngineShape, JobShape, ContextApart, GuardLaw, entries, hr, hu, hn, he,
    hm] using h

theorem QueueLaw.aside (h : QueueLaw s) (k : Within asideBlocks s t) : QueueLaw t :=
  h.congr k.record (by rw [k.queue]) (by rw [k.queue]) (by rw [k.engine]) (by rw [k.mode])

theorem QueueLaw.setSlotRt (h : QueueLaw s) (n : SlotIx) (x : SlotRuntime) : QueueLaw (s.setSlotRt n x) :=
  h.congr (fun _ => rfl) rfl rfl rfl rfl

theorem QueueLaw.countOverrun (h : QueueLaw s) (n : SlotIx) : QueueLaw (s.countOverrun n) :=
  (h.setSlotRt ..).aside (State.occur_within ..).mono

/-- In ACTIVE the law asks for no guard slots. -/
theorem QueueLaw.active (h : QueueLaw s) {m : ModeControl} (hm : m.mode = .active) : QueueLaw (s.setMode m) := by
  obtain ⟨shape, context, engine, -⟩ := h
  refine ⟨shape, context, engine, fun hg => ?_⟩
  cases hm.symm.trans hg

theorem WaitingLaw.setEngine (h : WaitingLaw s) (e : EngineState) : WaitingLaw (s.setEngine e) :=
  ⟨h.shape, h.context, h.guarded⟩

end Sys2Proof.Safety

namespace Sys2Proof.Machine

open Sys2Proof.Safety

theorem Averaging.count_pos (a : Averaging) : 0 < a.count := by cases a <;> decide

theorem RequestQueue.mem_normal_enqueue {q : RequestQueue} {e x : Entry} (h : x ∈ (q.enqueue e).normal) :
    x = e ∨ x ∈ q.normal := by
  unfold RequestQueue.enqueue at h
  split at h
  · exact .inr h
  · exact (List.mem_append.1 h).symm.imp_left List.mem_singleton.1

/-! ## The cases of a grant (R29) -/

namespace State

variable {s : State} {e : Entry} {es : List Entry}

theorem grant_of_not_idle (h : s.engine.state ≠ .idle) : s.grant = s := by
  unfold grant
  split
  · contradiction
  all_goals rfl

theorem grant_empty (hu : s.queue.urgent = []) (hn : s.queue.normal = []) : s.grant = s := by
  unfold grant
  split
  · simp only [hu, hn]
  all_goals rfl

theorem grant_urgent (hi : s.engine.state = .idle) (hu : s.queue.urgent = e :: es) :
    s.grant = (s.setSublists es s.queue.normal).startJob e := by
  simp only [grant, hi, hu]

theorem grant_normal (hi : s.engine.state = .idle) (hu : s.queue.urgent = []) (hn : s.queue.normal = e :: es) :
    s.grant = (s.setSublists [] es).startJob e := by
  simp only [grant, hi, hu, hn]

end State

end Sys2Proof.Machine

namespace Sys2Proof.Safety

open Sys2Proof.Machine

variable {s : State} {e : Entry}

namespace WaitingLaw

/-- R31, R32: the job formed from an entry goes on within its burst, ruled by the record. -/
theorem jobShape_toJob (h : WaitingLaw s) (he : e ∈ entries s) (now : Time) :
    JobShape s (e.toJob (s.record e.slot) now) := by
  obtain ⟨-, -, -, cls⟩ := h.shape
  obtain ⟨plain, part⟩ := h.context
  have burst : (e.ctx.map Context.done).getD 0 < (s.record e.slot).avg.count ∧
      (e.ctx.map Context.sum).getD 0 ≤ 4095 * (e.ctx.map Context.done).getD 0 := by
    cases hc : e.ctx with
    | none => exact ⟨Averaging.count_pos _, Nat.zero_le _⟩
    | some c =>
      have hn : e ∈ s.queue.normal := (List.mem_append.1 he).resolve_left fun hu => by
        cases hc.symm.trans (plain e (List.mem_append_left _ hu))
      exact (part e hn c hc).2
  exact ⟨burst.1, burst.2, fun _ => ⟨cls e he, rfl, rfl, rfl, rfl⟩⟩

/-- The hand-over of an entry, the others staying, where the contexts left are apart from it (R29, R33). -/
theorem startJob (h : WaitingLaw s) {urgent normal : List Entry} (he : e ∈ entries s)
    (hu : urgent.Sublist s.queue.urgent) (hn : normal.Sublist s.queue.normal)
    (apart : ∀ x ∈ normal, x.ctx.isSome → e.cls = .urgent ∧ e.slot ≠ x.slot) :
    QueueLaw ((s.setSublists urgent normal).startJob e) := by
  have left : WaitingLaw ((s.setSublists urgent normal).startJob e) :=
    h.shrink hu hn (fun _ _ => rfl) fun hm x hx => h.guarded hm x ((hu.append hn).subset hx)
  exact left.busy rfl ⟨h.jobShape_toJob he s.now, apart, fun hm => h.guarded hm e he⟩

/-- R29, R33: with the head of URGENT granted, the job is URGENT and of another slot than the context that waits; with that
of NORMAL, no context is left. -/
theorem grant (h : WaitingLaw s) (hi : s.engine.state = .idle) : QueueLaw s.grant := by
  obtain ⟨nodup, urgent, -, -⟩ := h.shape
  obtain ⟨plain, -⟩ := h.context
  cases hu : s.queue.urgent with
  | cons e us =>
    simp only [entries, hu, List.cons_append, List.map_cons, List.nodup_cons] at nodup
    rw [State.grant_urgent hi hu]
    refine h.startJob (by simp [hu]) (by simp [hu]) (.refl _) fun x hx _ => ⟨urgent e (by simp [hu]), fun hs => ?_⟩
    exact nodup.1 (hs ▸ List.mem_map_of_mem (List.mem_append_right _ hx))
  | nil =>
    cases hn : s.queue.normal with
    | cons e ns =>
      rw [State.grant_normal hi hu hn]
      refine h.startJob (by simp [hn]) (by simp) (by simp [hn]) fun x hx hc => ?_
      rw [plain x (by simp [hn, hx])] at hc
      cases hc
    | nil =>
      rw [State.grant_empty hu hn]
      exact h.idle hi ⟨hu, hn⟩

/-- R30: an engine that becomes IDLE is handed the next entry. -/
theorem regrant (h : WaitingLaw s) : QueueLaw (s.setEngine .idle).grant := (h.setEngine .idle).grant rfl

end WaitingLaw

namespace QueueLaw

/-! ## Requests (R23, R24) -/

theorem enqueue (h : QueueLaw s) (o : Origin) {n : SlotIx} (hnew : s.queue.holds n = false)
    (hguard : s.mode.mode = .guard → (s.record n).guard = true) : QueueLaw (s.enqueue o n) := by
  have absent : ∀ x ∈ entries s, x.slot ≠ n := fun x hx hs =>
    Bool.eq_false_iff.1 hnew ((s.holds_iff n).2 ⟨x, hx, hs⟩)
  have joined := h.waiting.enqueue (e := ⟨n, (s.record n).cls, o, s.now, none⟩) absent rfl rfl hguard
  unfold State.enqueue
  cases hb : s.engine.state with
  | idle => exact joined.grant hb
  | faulted =>
    rw [State.grant_of_not_idle (by rw [State.setQueue_engine, hb]; nofun)]
    exact joined.faulted hb
  | busy j =>
    obtain ⟨shape, apart, guarded⟩ := h.running hb
    rw [State.grant_of_not_idle (by rw [State.setQueue_engine, hb]; nofun)]
    refine joined.busy hb ⟨shape, fun x hx hc => ?_, guarded⟩
    obtain rfl | hx := RequestQueue.mem_normal_enqueue hx
    · cases hc
    · exact apart x hx hc

theorem request (h : QueueLaw s) (o : Origin) {n : SlotIx}
    (hguard : s.mode.mode = .guard → (s.record n).guard = true) : QueueLaw (s.request o n) := by
  unfold State.request
  split
  · split
    · exact h
    · exact h.countOverrun n
  · next hn => exact h.enqueue o (by simpa using hn) hguard

theorem raise (h : QueueLaw s) (o : Origin) (n : SlotIx) : QueueLaw (s.raise o n) := by
  rw [State.raise_eq]
  split
  · next hr =>
    refine h.request o fun hm => hr.2.resolve_left fun ha => ?_
    cases hm.symm.trans ha
  · exact h

/-- Deliveries, trigger sources and GUARD exits keep the law. -/
theorem sourced {t : State} (h : QueueLaw s) (k : Sourced s t) : QueueLaw t := by
  induction k with
  | refl => exact h
  | aside _ k ih => exact ih.aside k
  | raise _ o n ih => exact ih.raise o n
  | active _ m hm ih => exact ih.active hm

end QueueLaw

end Sys2Proof.Safety
end

section
/-! PROOF. Every step keeps the law of the queue and the engine (R21, R22, R28, R30, R33, R60). -/

namespace Sys2Proof.Machine

open Sys2Proof.Safety

/-! ## Samples and suspension -/

/-- R65: a scaled sample is a code of 12 bits. -/
theorem Job.scaled_le (j : Job) (raw : Code12) : j.scaled raw ≤ 4095 := by
  unfold scaled rawCode
  cases j.res
  case bits12 => have := raw.isLt; simp only; omega
  case bits10 => have := (field raw 0 10).isLt; simp only; omega

/-- A sample more stays within its bound of the sum. -/
theorem Job.addSample_sum_le {j : Job} (h : j.sum ≤ 4095 * j.done) (raw : Code12) :
    (j.addSample raw).sum ≤ 4095 * (j.addSample raw).done := by
  have := j.scaled_le raw
  simp only [addSample]
  omega

namespace State

variable (s : State) (n : SlotIx)

/-- R34: the suspended job's slot has no entry left in NORMAL. -/
theorem absorbPlain_normal : (s.absorbPlain n).queue.normal = s.queue.normal.filter fun e => e.slot != n := by
  unfold absorbPlain
  split
  · rfl
  · next h =>
    refine (List.filter_eq_self.2 fun e he => ?_).symm
    simp only [List.any_eq_true, beq_iff_eq, not_exists, not_and] at h
    simpa using h e he

theorem absorbPlain_urgent : (s.absorbPlain n).queue.urgent = s.queue.urgent := by
  unfold absorbPlain
  split <;> rfl

theorem absorbPlain_record (m : SlotIx) : (s.absorbPlain n).record m = s.record m := by
  unfold absorbPlain
  split <;> rfl

end State

end Sys2Proof.Machine

namespace Sys2Proof.Safety

open Sys2Proof.Machine

variable {s t : State} {j : Job}

namespace WaitingLaw

theorem absorbPlain (h : WaitingLaw s) (n : SlotIx) : WaitingLaw (s.absorbPlain n) := by
  have hu : (s.absorbPlain n).queue.urgent.Sublist s.queue.urgent := by rw [s.absorbPlain_urgent]
  have hn : (s.absorbPlain n).queue.normal.Sublist s.queue.normal := by
    rw [s.absorbPlain_normal]
    exact List.filter_sublist
  refine h.shrink hu hn (fun e _ => s.absorbPlain_record n e.slot) fun hm e he => ?_
  rw [(s.absorbPlain_within n).mode] at hm
  rw [s.absorbPlain_record]
  exact h.guarded hm e ((hu.append hn).subset he)

/-- R33, R34: a NORMAL job whose burst is not done goes back where no context waits; its slot has no entry in URGENT,
whose entries are of URGENT slots, and none is left in NORMAL. -/
theorem suspend (h : WaitingLaw s) (k : RunningLaw s j) (hw : j.withdrawn = false) (hc : j.cls = .normal)
    (hd : 1 ≤ j.done) : QueueLaw (s.suspend j) := by
  obtain ⟨done, sum, ruled⟩ := k.shape
  obtain ⟨cls, -, -, -, avg⟩ := ruled hw
  have w := h.absorbPlain j.slot
  obtain ⟨-, urgent, normal, slotCls⟩ := w.shape
  have plain : ∀ e ∈ (s.absorbPlain j.slot).queue.normal, e.ctx = none := by
    intro e he
    rw [s.absorbPlain_normal] at he
    refine Option.not_isSome_iff_eq_none.1 fun hs => ?_
    cases hc.symm.trans (k.apart e (List.mem_of_mem_filter he) hs).1
  refine (w.insert (e := j.toEntry) List.perm_middle urgent ?normal ?plain ?part ?new ?cls ?guard).regrant
  case normal => exact List.forall_mem_cons.2 ⟨hc, normal⟩
  case plain =>
    rw [List.tail_cons]
    exact List.forall_mem_append.2 ⟨fun e he => w.context.1 e (List.mem_append_left _ he), plain⟩
  case part =>
    rintro c ⟨⟩
    rw [s.absorbPlain_record]
    exact ⟨hd, avg ▸ done, sum⟩
  case new =>
    intro e he hs
    obtain he | he := List.mem_append.1 he
    · have hcls := slotCls e (List.mem_append_left _ he)
      rw [hs, s.absorbPlain_record, urgent e he] at hcls
      cases hcls.trans (cls.symm.trans hc)
    · rw [s.absorbPlain_normal] at he
      have : e.slot ≠ j.slot := by simpa using List.of_mem_filter he
      exact this hs
  case cls =>
    rw [s.absorbPlain_record]
    exact cls
  case guard =>
    intro hm
    rw [(s.absorbPlain_within _).mode] at hm
    rw [s.absorbPlain_record]
    exact k.guarded hm

end WaitingLaw

namespace QueueLaw

theorem setOutcome (h : QueueLaw s) (n : SlotIx) (o : LastOutcome) : QueueLaw (s.setOutcome n o) := h.setSlotRt ..

/-- R77: the job's end, with its outcome. -/
theorem regrant (h : QueueLaw s) : QueueLaw (s.setEngine .idle).grant := h.waiting.regrant

/-- R66: what follows a completed sample. -/
theorem afterSample (h : QueueLaw s) (hb : s.engine.state = .busy j) (raw : Code12) :
    QueueLaw (s.afterSample (j.addSample raw)) := by
  have k := h.running hb
  obtain ⟨done, sum, ruled⟩ := k.shape
  unfold State.afterSample
  split
  · exact (h.setOutcome ..).regrant
  · next hw =>
    split
    · exact ((h.sourced (s.deliver_sourced _)).setOutcome ..).regrant
    · next hd =>
      have more : RunningLaw s (j.addSample raw) :=
        ⟨⟨Nat.lt_of_le_of_ne done hd, Job.addSample_sum_le sum raw, ruled⟩, k.apart, k.guarded⟩
      split
      · next hc => exact h.waiting.suspend more (by simpa using hw) hc.1 (Nat.le_add_left ..)
      · have w : WaitingLaw (s.startSample (j.addSample raw)) := ⟨h.waiting.shape, h.waiting.context, h.waiting.guarded⟩
        exact w.busy rfl ⟨more.shape, more.apart, more.guarded⟩

theorem completion (h : QueueLaw s) (k : Nat) (raw : Code12) : QueueLaw (s.completion k raw) := by
  unfold State.completion
  split
  · next hb =>
    split
    · exact h.afterSample hb raw
    · exact h
  all_goals exact h

/-- R69: the failed job hands on what it has, and the engine enters FAULTED. -/
theorem deadlineExpiry (h : QueueLaw s) : QueueLaw s.deadlineExpiry := by
  unfold State.deadlineExpiry
  split
  · next j _ =>
    split
    · have failed : QueueLaw (s.endFailed j) := by
        unfold State.endFailed
        split
        · exact h.setOutcome ..
        · exact (h.sourced (s.deliver_sourced _)).setOutcome ..
      have w : WaitingLaw ((s.endFailed j).enterFaulted (j.faultRecord s.now)) :=
        ⟨failed.waiting.shape, failed.waiting.context, failed.waiting.guarded⟩
      exact (w.faulted rfl).aside (State.occur_within ..).mono
    · exact h
  all_goals exact h

end QueueLaw

end Sys2Proof.Safety

/-! ## GUARD entry (R178) -/

namespace Sys2Proof.Machine.State

open Sys2Proof.Safety

/-- The part in GUARD, before the job in the engine is judged (R75, R178). -/
def guardEntered (s : State) : State :=
  ((s.setMode { s.mode with mode := .guard }).withdraw fun e => (s.record e.slot).guard).freezeCountdowns.stopChannels

theorem enterGuard_eq (s : State) : s.enterGuard = s.guardEntered.guardAbort := rfl

/-- R28: the entries that stay are of guard slots. -/
theorem waitingLaw_guardEntered {s : State} (h : WaitingLaw s) : WaitingLaw s.guardEntered := by
  refine h.shrink List.filter_sublist List.filter_sublist (fun _ _ => rfl) fun _ e he => ?_
  obtain he | he := List.mem_append.1 he <;> exact (List.mem_filter.1 he).2

/-- R28, R75: a job of another than a guard slot is abandoned; one of a guard slot goes on. -/
theorem queueLaw_enterGuard {s : State} (h : QueueLaw s) : QueueLaw s.enterGuard := by
  have w := waitingLaw_guardEntered h.waiting
  rw [enterGuard_eq, guardAbort]
  cases hb : s.engine.state with
  | idle =>
    obtain ⟨hu, hn⟩ := h.idle hb
    simp only [show s.guardEntered.engine.state = .idle from hb]
    exact w.idle hb ⟨congrArg (List.filter _) hu, congrArg (List.filter _) hn⟩
  | faulted =>
    simp only [show s.guardEntered.engine.state = .faulted from hb]
    exact w.faulted hb
  | busy j =>
    obtain ⟨shape, apart, -⟩ := h.running hb
    simp only [show s.guardEntered.engine.state = .busy j from hb]
    split
    · next hg => exact w.busy hb ⟨shape, fun e he => apart e (List.mem_of_mem_filter he), fun _ => hg⟩
    · exact WaitingLaw.regrant (s := s.guardEntered.setOutcome j.slot .aborted) ⟨w.shape, w.context, w.guarded⟩

/-! ## COMMIT (R16, R17) -/

variable {s : State}

/-- R28: in GUARD no COMMIT is taken. -/
theorem commit_state_guard (hm : s.mode.mode = .guard) : s.commit.state = s := by
  cases hs : s.staging.state with
  | empty => rw [commit_empty hs, CommandEnd.state]
  | loaded => rw [commit_guard hs hm, CommandEnd.state]

/-- R16, R17: the slot's entries leave with its old record, and its job is marked withdrawn. -/
theorem queueLaw_installedBase (h : QueueLaw s) (hm : s.mode.mode = .active) (n : SlotIx) (r : SlotRecord) :
    QueueLaw (s.installedBase n r) := by
  have other : ∀ m, m ≠ n → (s.installedBase n r).record m = s.record m := fun m hmn =>
    (get_set ..).trans (if_neg hmn)
  have active : (s.installedBase n r).mode.mode ≠ .guard := by
    rw [show (s.installedBase n r).mode.mode = .active from hm]
    decide
  have w : WaitingLaw (s.installedBase n r) := by
    refine h.waiting.shrink List.filter_sublist List.filter_sublist (fun e he => other _ fun hs => ?_)
      fun hg => absurd hg active
    exact Bool.eq_false_iff.1 (not_holds_installedBase s n r) ((holds_iff ..).2 ⟨e, he, hs⟩)
  cases hb : s.engine.state with
  | idle =>
    obtain ⟨hu, hn⟩ := h.idle hb
    exact w.idle (by simp only [installedBase, hb]) ⟨congrArg (List.filter _) hu, congrArg (List.filter _) hn⟩
  | faulted => exact w.faulted (by simp only [installedBase, hb])
  | busy j =>
    obtain ⟨⟨done, sum, ruled⟩, apart, -⟩ := h.running hb
    have stay : ∀ e ∈ (s.installedBase n r).queue.normal, e.ctx.isSome → j.cls = .urgent ∧ j.slot ≠ e.slot :=
      fun e he => apart e (List.mem_of_mem_filter he)
    by_cases hj : j.slot = n
    · exact w.busy (j := { j with withdrawn := true }) (by simp only [installedBase, hb, if_pos hj])
        ⟨⟨done, sum, nofun⟩, stay, fun hg => absurd hg active⟩
    · refine w.busy (j := j) (by simp only [installedBase, hb, if_neg hj])
        ⟨⟨done, sum, ?_⟩, stay, fun hg => absurd hg active⟩
      rwa [other _ hj]

theorem queueLaw_commit (h : QueueLaw s) : QueueLaw s.commit.state := by
  cases hm : s.mode.mode with
  | guard => rwa [commit_state_guard hm]
  | active =>
    obtain ⟨_, _, hc⟩ | ⟨n, r, -, -, -, -, hc⟩ | ⟨n, r, -, -, -, -, -, hc⟩ := s.commit_cases <;> rw [hc]
    · exact h
    · have installed : QueueLaw (s.installSlot n r) := by
        have base := queueLaw_installedBase h hm n r
        rw [installSlot_eq s n r hm]
        obtain hd | hd := requestIfDue_cases (s.installedBase n r) n r <;> rw [hd]
        · exact base.request _ fun hg => nomatch hm.symm.trans hg
        · exact base
      exact installed.aside (stageInstalledSlot_within ..).mono
    · exact (h.aside (installRule_within ..).mono).aside (stageInstalledRule_within ..).mono

/-! ## Every step -/

/-- R41, R61: a reset leaves nothing waiting and the engine IDLE. -/
theorem queueLaw_resetAll (s : State) (c : ResetCause) (b : Bool) : QueueLaw (s.resetAll c b) := by
  have w : WaitingLaw (s.resetAll c b) := ⟨⟨.nil, nofun, nofun, nofun⟩, ⟨nofun, nofun⟩, nofun⟩
  exact w.idle rfl ⟨rfl, rfl⟩

end Sys2Proof.Machine.State

namespace Sys2Proof.Machine

open Sys2Proof.Safety

/-- A property of a command's effect at every index, and of the state before it for an index that names nothing (R192). -/
theorem withIndex_state {P : State → Prop} {bound : Nat} {arg : Byte} {s : State} {f : Fin bound → CommandEnd} (h : P s)
    (hf : ∀ n, P (f n).state) : P (withIndex bound arg s f).state := by
  unfold withIndex
  split
  · exact hf _
  · exact h

theorem Command.effect_queueLaw (c : Command) (arg : Byte) (s : State) (hc : c ≠ .softReset) (h : QueueLaw s) :
    QueueLaw (c.effect arg s).state := by
  cases c <;> simp only [Command.effect]
  case softReset => exact absurd rfl hc
  case commit => exact State.queueLaw_commit h
  case trigger =>
    refine withIndex_state h fun n => ?_
    split
    · exact h
    · split
      · exact h
      · next hg => exact h.request _ fun hm => by simpa [hm] using hg
  case abort =>
    unfold State.abort
    split
    · exact (h.setOutcome ..).regrant
    all_goals exact h
  case restartConverter =>
    unfold State.restartConverter
    split
    · exact h.regrant
    all_goals exact h
  case clearSlotStats => exact withIndex_state h fun n => h.setSlotRt n { s.slotRt n with overrun := 0 }
  case guardEnter =>
    unfold State.guardEnter
    repeat' split
    all_goals first | exact h | exact State.queueLaw_enterGuard h
  case guardExit =>
    unfold State.guardExit
    split
    · exact h.sourced (s.leaveGuard_sourced _)
    · exact h
  all_goals exact h.aside (Command.effect_within _ arg s hc).mono

theorem Reg.writeEffect_queueLaw (r : Reg) (d : Word) (f : State → State) (s : State) (hf : r.writeEffect d = some f)
    (h : QueueLaw s) : QueueLaw (f s) := by
  have hw := Reg.writeEffect_within r d f s hf
  cases r <;> simp only [writeBlocks] at hw
  case queueSel => cases hf; exact h.congr (fun _ => rfl) rfl rfl rfl rfl
  case pwmCtrl c => cases hf; exact h.sourced (s.writePwmCtrl_sourced c d)
  case guardCtrl => cases hf; exact h.congr (fun _ => rfl) rfl rfl rfl rfl
  all_goals exact h.aside hw.mono

theorem kept_queueLaw : Kept QueueLaw where
  quiet k h := h.aside k.within.mono
  command c arg s hc := c.effect_queueLaw arg s hc
  write r d f s hf := r.writeEffect_queueLaw d f s hf
  captureTime s h := h.aside s.captureTime_within.mono
  captureEntry s h := h.congr (fun _ => rfl) rfl rfl rfl rfl
  captureJob s h := h.congr (fun _ => rfl) rfl rfl rfl rfl
  captureFault s h := h.congr (fun _ => rfl) rfl rfl rfl rfl
  resetAll s c b _ := s.queueLaw_resetAll c b
  resetEnd s h := h.congr (fun _ => rfl) rfl rfl rfl rfl
  completion s k raw h := h.completion k raw
  deadlineExpiry s h := h.deadlineExpiry
  tick s k h := h.aside (s.tick_within k).mono
  periodicExpiry s n h := h.sourced (.ite (s.expire_sourced n) .refl)
  edge s pin l h := h.sourced (s.edge_sourced pin l)
  pointReached s c h := h.sourced (s.pointReached_sourced c)
  periodEnd s c h := h.sourced (s.periodEnd_sourced c)
  dutyEnd s c h := h.aside (s.dutyEnd_within c).mono
  softStartExpiry s n h := h.aside (s.setSwitch_within n _).mono
  refillExpiry s n h := h.aside (s.setSwitch_within n _).mono
  retryExpiry s n h := h.aside (s.setSwitch_within n _).mono
  currentLimit s n h := h.aside (s.currentLimit_within n).mono

/-- Settles O52: every part of a step keeps the law. Deliveries and events reach the queue by requests only, and wherever
the engine becomes IDLE the arbiter grants against entries that keep their part of it. -/
theorem queueLawKept : Obligations.QueueLawKept :=
  fun _ _ hs ht => kept_queueLaw.step hs ht

end Sys2Proof.Machine
end

section
/-! PROOF. Requests and grants as whole next states, and CLEAR_SLOT_STATS (R23, R24, R29, R31, R32, R39, R62). -/

namespace Sys2Proof.Machine

open Sys2Proof.Safety

/-! ## Requests -/

theorem State.countOverrun_eq (s : State) (n : SlotIx) : s.countOverrun n =
    (s.setSlotRt n { s.slotRt n with overrun := min 255 ((s.slotRt n).overrun + 1) }).occur .slotOverrun := by
  rw [State.countOverrun, satInc, min_comm]

theorem State.request_of_holds {s : State} (o : Origin) {n : SlotIx} (h : s.queue.holds n = true) :
    s.request o n = if o = .host then s else s.countOverrun n := if_pos h

/-- Settles O20: an entry of the slot decides between the merge and the new entry, whose class decides its sub-list. -/
theorem requestTaken : Obligations.RequestTaken := by
  intro s o n
  refine ⟨fun h => ?merge, fun h => ?new⟩
  case merge => rw [State.request_of_holds o ((s.holds_iff n).2 h), State.countOverrun_eq]
  case new =>
    have hnew : s.queue.holds n = false := Bool.eq_false_iff.2 fun hs => by
      obtain ⟨e, he, hn⟩ := (s.holds_iff n).1 hs
      exact h e he hn
    rw [State.request_of_not_holds s hnew, State.enqueue]
    cases hc : (s.record n).cls <;> simp only [RequestQueue.enqueue, State.setQueue]

/-! ## Grants -/

/-- Settles O21: the case of each grant, and the job of an entry with and without a resume context. -/
theorem grantTaken : Obligations.GrantTaken := by
  intro s job
  have started : ∀ (e : Entry) (urgent normal : List Entry), (s.setSublists urgent normal).startJob e =
      { s with
        queue := { s.queue with urgent := urgent, normal := normal }
        engine := { s.engine with state := .busy (job e), samples := s.engine.samples + 1 } } := by
    intro e urgent normal
    obtain ⟨slot, cls, origin, enq, ctx⟩ := e
    cases ctx <;> rfl
  refine ⟨fun h => ?nothing, fun e us hi hu => ?urgent, fun e ns hi hu hn => ?normal⟩
  case nothing =>
    obtain hi | ⟨hu, hn⟩ := h
    · exact State.grant_of_not_idle hi
    · exact State.grant_empty hu hn
  case urgent => rw [State.grant_urgent hi hu, started]
  case normal => rw [State.grant_normal hi hu hn, ← hu, started]

/-! ## CLEAR_SLOT_STATS -/

/-- Settles O22: the index names the slot whose count is cleared, or is refused. -/
theorem clearSlotStats : Obligations.ClearSlotStats :=
  ⟨fun _ n hr => congrArg Host.Outcome.next
      (State.hostCommand_finished (c := .clearSlotStats) hr (withIndex_num (by decide) n)),
    fun _ _ hr hb => congrArg Host.Outcome.next
      (State.hostCommand_finished (c := .clearSlotStats) hr (withIndex_ge hb))⟩

end Sys2Proof.Machine
end

section
/-! PROOF. The readout of the queue (R37, R38, R40, R196). -/

namespace Sys2Proof.Machine

open Sys2Proof.Safety

/-! ## Bits and marks -/

section Bits

variable {m n : Nat}

/-- A bit that stands in the upper part. -/
theorem getLsbD_up (x : BitVec m) (y : BitVec n) (k : Nat) : (x ++ y).getLsbD (n + k) = x.getLsbD k := by
  rw [BitVec.getLsbD_append, if_neg (by omega), Nat.add_sub_cancel_left]

/-- The lowest bit, where a bit is the lower part. -/
theorem getLsbD_bit (x : BitVec m) (b : Bool) : (x ++ bit b).getLsbD 0 = b := by
  rw [BitVec.getLsbD_append, if_pos (by decide)]
  cases b <;> rfl

/-- The indications of a list of things, over those that stand already. -/
theorem getLsbD_foldl_marks (f : Fin n → Bool) (l : List (Fin n)) (x : BitVec n) (i : Fin n) :
    (l.foldl (fun x k => if f k then x ||| BitVec.twoPow n k else x) x).getLsbD i =
      (x.getLsbD i || (decide (i ∈ l) && f i)) := by
  induction l generalizing x with
  | nil => simp
  | cons k l ih =>
    have step : (if f k then x ||| BitVec.twoPow n k else x).getLsbD i = (x.getLsbD i || (decide (i = k) && f i)) := by
      by_cases hk : i = k
      · subst hk
        cases hf : f i <;> simp
      · have : (i : Nat) ≠ k := fun h => hk (Fin.ext h)
        split <;> simp [hk, this]
    rw [List.foldl_cons, ih, step, Bool.or_assoc, ← Bool.and_or_distrib_right]
    simp

/-- Each thing has its own indication. -/
theorem getLsbD_marks (f : Fin n → Bool) (i : Fin n) : (marks n f).getLsbD i = f i := by
  rw [marks, getLsbD_foldl_marks]
  simp

end Bits

/-! ## QUEUE_SEL and QUEUE_ENTRY (R38) -/

theorem Origin.toNat_code (o : Origin) : o.code.toNat = origins.idxOf o := by cases o <;> rfl

theorem PClass.code_bit (c : PClass) : c.code = bit (decide (c = .urgent)) := by cases c <;> rfl

theorem selWord_shows (q : RequestQueue) :
    shows q.selWord [(8, [PClass.urgent, .normal].idxOf q.selList), (0, q.selPos.val)] := by
  have code : q.selList.selCode.toNat = [PClass.urgent, .normal].idxOf q.selList := by cases q.selList <;> rfl
  rw [shows, RequestQueue.selWord]
  repeat rw [toNat_join]
  simp [code]
  omega

section Entries

variable (e : Entry)

theorem slot_entryWord : (field (entryWord (some e)) 0 5).toNat = e.slot := by
  rw [entryWord, field_lo, toNat_num (by omega)]

theorem cls_entryWord : (entryWord (some e)).getLsbD 5 = decide (e.cls = .urgent) := by
  rw [entryWord, getLsbD_up _ _ 0, PClass.code_bit, getLsbD_bit]

theorem origin_entryWord : (field (entryWord (some e)) 6 3).toNat = origins.idxOf e.origin := by
  rw [entryWord, field_up _ _ 1, field_up _ _ 0, field_lo, Origin.toNat_code]

theorem suspended_entryWord : (entryWord (some e)).getLsbD 9 = e.ctx.isSome := by
  rw [entryWord, getLsbD_up _ _ 4, getLsbD_up _ _ 3, getLsbD_up _ _ 0, getLsbD_bit]

theorem done_entryWord : field (entryWord (some e)) 10 4 = num 4 ((e.ctx.map Context.done).getD 0) := by
  rw [entryWord, field_up _ _ 5, field_up _ _ 4, field_up _ _ 1, field_up _ _ 0, field_lo]

theorem clipped_entryWord : (entryWord (some e)).getLsbD 14 = (e.ctx.map Context.clipped).getD false := by
  rw [entryWord, getLsbD_up _ _ 9, getLsbD_up _ _ 8, getLsbD_up _ _ 5, getLsbD_up _ _ 4, getLsbD_up _ _ 0, getLsbD_bit]

theorem marker_entryWord : (entryWord (some e)).getLsbD 15 = false := by
  rw [entryWord, getLsbD_up _ _ 10, getLsbD_up _ _ 9, getLsbD_up _ _ 6, getLsbD_up _ _ 5, getLsbD_up _ _ 1,
    getLsbD_up _ _ 0]
  rfl

end Entries

/-! ## QUEUE_DEPTH and the overrun summary (R37, R40) -/

/-- R22: with one entry a slot at most 32 wait. -/
theorem length_entries_le {s : State} (h : QueueShape s) : s.queue.urgent.length + s.queue.normal.length ≤ 32 := by
  have := h.1.length_le_card
  simpa using this

theorem depthWord_shows {q : RequestQueue} (h : q.urgent.length + q.normal.length ≤ 32) :
    (field q.depthWord 0 6).toNat = q.urgent.length ∧ (field q.depthWord 6 6).toNat = q.normal.length ∧
      q.depthWord.getLsbD 12 = (q.urgent ++ q.normal).any fun e => e.ctx.isSome := by
  rw [RequestQueue.depthWord]
  refine ⟨?_, ?_, ?_⟩
  · rw [field_lo, toNat_num (by omega)]
  · rw [field_up _ _ 0, field_lo, toNat_num (by omega)]
  · rw [getLsbD_up _ _ 6, getLsbD_up _ _ 0, getLsbD_bit]

theorem overrunLow_bit (s : State) {n : SlotIx} (h : n.val < 16) :
    s.overrunLow.getLsbD n.val = ((s.slotRt n).overrun != 0) :=
  getLsbD_marks (fun i : Fin 16 => (s.slotRt (i.castLE (by decide))).overrun != 0) ⟨n, h⟩

theorem overrunHigh_bit (s : State) {n : SlotIx} (h : 16 ≤ n.val) :
    s.overrunHigh.getLsbD (n.val - 16) = ((s.slotRt n).overrun != 0) := by
  have hn : (⟨n - 16, by omega⟩ : Fin 16).natAdd 16 = n := Fin.ext (by simp; omega)
  have mark := getLsbD_marks (fun i : Fin 16 => (s.slotRt (i.natAdd 16)).overrun != 0) ⟨n - 16, by omega⟩
  rwa [hn] at mark

/-- Settles O23: each register's word taken apart into its fields, of a captured entry with and without a context. -/
theorem queueReadout : Obligations.QueueReadout := by
  refine ⟨fun s hr => ⟨fun d => ?select, selWord_shows _, ?capture⟩,
    fun s => ⟨fun hq => ?depth, fun n => ?overrun⟩⟩
  case select =>
    refine congrArg Host.Outcome.next ((State.hostAccess_ready hr _).trans ?_)
    exact (State.windowWrite_reg hr .queueSel d nofun rfl).trans (State.hostWrite_answered hr _ d _)
  case capture =>
    intro captured t
    refine ⟨congrArg Host.Outcome.next (State.hostRead_answered hr 0x22 State.captureEntry State.queueEntryValue),
      fun h => ?empty, fun e h => ?entry⟩
    case empty =>
      have hread : t.queue.readout = none := h
      simp only [Reg.value, State.queueEntryValue, hread]
      exact ⟨rfl, rfl, rfl, rfl, rfl, rfl⟩
    case entry =>
      have hread : t.queue.readout = some e := h
      intro v
      have hv : v = entryWord (some e) := congrArg entryWord hread
      simp only [hv, Reg.value, hread, hi_append_lo]
      refine ⟨marker_entryWord e, slot_entryWord e, ?_, origin_entryWord e, ?_, rfl, fun hc => ?_, fun c hc => ?_⟩
      · rw [cls_entryWord, decide_eq_true_iff]
      · rw [suspended_entryWord, Option.isSome_iff_ne_none]
      · rw [entrySum, entryFirst, entryCtx, Option.bind_some, hc]
        exact ⟨rfl, rfl, rfl⟩
      · rw [clipped_entryWord, done_entryWord, entrySum, entryFirst, entryCtx, Option.bind_some, hc]
        exact ⟨rfl, rfl, rfl, rfl⟩
  case depth =>
    have hl := length_entries_le hq
    obtain ⟨urgent, normal, waits⟩ := depthWord_shows hl
    refine ⟨urgent, normal, hl, ?_⟩
    rw [Reg.value, waits]
    simp only [List.any_eq_true, Option.isSome_iff_ne_none]
  case overrun =>
    split
    · next h => rw [Reg.value, overrunLow_bit s h, bne_iff_ne]
    · next h => rw [Reg.value, overrunHigh_bit s (by omega), bne_iff_ne]

end Sys2Proof.Machine
end

section
/-! SUPPORT. What the law of the countdowns and decimation counters reads, and what keeps it for one slot (R46, R49, R53). -/

namespace Sys2Proof.Safety

open Sys2Proof.Machine

variable {s t : State} {n : SlotIx}

/-- R46, R49: slot `n` is one whose countdown may run. -/
abbrev MayRun (s : State) (n : SlotIx) : Prop :=
  (s.record n).enabled = true ∧ isPeriodic (s.record n).trigger = true ∧
    (s.mode.mode = .guard → (s.record n).guard = true)

theorem MayRun.congr (h : MayRun s n) (hr : t.record n = s.record n) (hm : t.mode.mode = s.mode.mode) : MayRun t n := by
  rwa [MayRun, hr, hm]

/-! ## One countdown -/

namespace CountdownLaw

theorem congr (h : CountdownLaw s n) (hr : t.record n = s.record n) (hc : t.countdown n = s.countdown n)
    (hm : t.mode.mode = s.mode.mode) : CountdownLaw t n := by
  rwa [CountdownLaw, hr, hc, hm]

theorem of_stopped (hc : s.countdown n = ⟨.stopped, 0⟩) : CountdownLaw s n := by
  rw [CountdownLaw, hc]
  exact ⟨Nat.zero_le _, rfl⟩

theorem of_running {left : Nat} (hc : s.countdown n = ⟨.running, left⟩) (hl : left ≤ 41942400) (hr : MayRun s n) :
    CountdownLaw s n := by
  rw [CountdownLaw, hc]
  exact ⟨hl, hr⟩

theorem of_frozen {left : Nat} (hc : s.countdown n = ⟨.frozen, left⟩) (hl : left ≤ 41942400)
    (hr : (s.record n).enabled = true ∧ isPeriodic (s.record n).trigger = true) (hm : s.mode.mode = .guard)
    (hg : (s.record n).guard = false) : CountdownLaw s n := by
  rw [CountdownLaw, hc]
  exact ⟨hl, hr.1, hr.2, hm, hg⟩

/-- The three states a countdown can be in, each with what the law says of its slot. -/
theorem cases (h : CountdownLaw s n) : s.countdown n = ⟨.stopped, 0⟩ ∨ ∃ left, left ≤ 41942400 ∧
    ((s.countdown n = ⟨.running, left⟩ ∧ MayRun s n) ∨
      (s.countdown n = ⟨.frozen, left⟩ ∧ (s.record n).enabled = true ∧ isPeriodic (s.record n).trigger = true ∧
        s.mode.mode = .guard ∧ (s.record n).guard = false)) := by
  obtain ⟨bound, law⟩ := h
  revert bound law
  obtain ⟨state, left⟩ := s.countdown n
  intro bound law
  cases state with
  | stopped =>
    obtain rfl : left = 0 := law
    exact .inl rfl
  | running => exact .inr ⟨left, bound, .inl ⟨rfl, law⟩⟩
  | frozen => exact .inr ⟨left, bound, .inr ⟨rfl, law⟩⟩

end CountdownLaw

/-! ## One decimation counter -/

namespace DecimLaw

theorem congr (h : DecimLaw s n) (hr : t.record n = s.record n) (hd : t.decim n = s.decim n) : DecimLaw t n := by
  rwa [DecimLaw, hr, hd]

/-- R19, R53: a counter of 0 is below every decimation that an installed record can have. -/
theorem of_zero (hd : s.decim n = 0) (hr : TriggerRange (s.record n).trigger) : DecimLaw s n := by
  unfold DecimLaw
  cases ht : (s.record n).trigger with
  | pwm c d =>
    rw [ht] at hr
    obtain ⟨low, high⟩ := hr
    simp only [hd]
    omega
  | hostOnly | periodic | follow | pin => exact hd

theorem lt (h : DecimLaw s n) {c : ChIx} {d : BitVec 5} (ht : (s.record n).trigger = .pwm c d) :
    s.decim n < d.toNat ∧ d.toNat ≤ 16 := by
  rwa [DecimLaw, ht] at h

theorem of_lt {c : ChIx} {d : BitVec 5} (ht : (s.record n).trigger = .pwm c d)
    (h : s.decim n < d.toNat ∧ d.toNat ≤ 16) : DecimLaw s n := by
  rwa [DecimLaw, ht]

end DecimLaw

/-! ## All slots -/

namespace TriggerLaw

variable {bs : List Block}

/-- An operation that leaves the records, the trigger sources and the mode alone. -/
theorem calm (h : TriggerLaw s) (k : TableCalm s t) (w : Within bs s t) (ht : Block.triggers ∉ bs := by decide)
    (hm : Block.mode ∉ bs := by decide) : TriggerLaw t := fun n =>
  ⟨(h n).1.congr (k.record n) (w.countdown n ht) (congrArg ModeControl.mode (w.mode hm)),
    (h n).2.congr (k.record n) (w.decim n ht)⟩

theorem within (h : TriggerLaw s) (w : Within bs s t) (hs : Block.slots ∉ bs := by decide)
    (ht : Block.triggers ∉ bs := by decide) (hm : Block.mode ∉ bs := by decide) : TriggerLaw t :=
  h.calm (.of_within w hs) w ht hm

theorem setCountdown (h : TriggerLaw s) {c : Countdown} (hc : CountdownLaw (s.setCountdown n c) n) :
    TriggerLaw (s.setCountdown n c) := by
  intro m
  refine ⟨?_, (h m).2⟩
  by_cases hm : m = n
  · rwa [hm]
  · exact (h m).1.congr rfl ((State.countdown_setCountdown ..).trans (if_neg hm)) rfl

theorem setDecim (h : TriggerLaw s) {k : Nat} (hd : DecimLaw (s.setDecim n k) n) : TriggerLaw (s.setDecim n k) := by
  intro m
  refine ⟨(h m).1, ?_⟩
  by_cases hm : m = n
  · rwa [hm]
  · exact (h m).2.congr rfl ((State.decim_setDecim ..).trans (if_neg hm))

theorem setTriggers (h : TriggerLaw s) {x : TriggerSources} (hc : x.countdowns = s.triggers.countdowns)
    (hd : x.decims = s.triggers.decims) : TriggerLaw (s.setTriggers x) := fun n =>
  ⟨(h n).1.congr rfl (congrArg (fun v => v[n]) hc) rfl, (h n).2.congr rfl (congrArg (fun v => v[n]) hd)⟩

end TriggerLaw

end Sys2Proof.Safety
end

section
/-! SUPPORT. The events of the trigger sources, the mode changes and the installation of a record keep the law of the
countdowns and decimation counters (R19, R47, R49, R53). -/

namespace Sys2Proof.Machine

open Sys2Proof.Safety

/-- R48: the longest reload is 65535 units of 10 µs, times 64. -/
theorem State.tenMicros_reload_le (s : State) (n : SlotIx) (period : Word) :
    tenMicros (s.reload n period) ≤ 41942400 := by
  have hp : period.toNat ≤ 65535 := Nat.le_of_lt_succ period.isLt
  have hf : (if s.mode.mode = .guard ∧ (s.record n).guard = true then 4 ^ s.mode.stretch.toNat else 1) ≤ 64 := by
    have stretch : ∀ c : BitVec 2, 4 ^ c.toNat ≤ 64 := by decide
    split
    · exact stretch _
    · decide
  rw [s.reload_eq]
  exact Nat.mul_le_mul_left 10 (Nat.mul_le_mul hp hf)

/-- R19, R46: an installed countdown is stopped, or runs for an ENABLED PERIODIC record. -/
theorem installedCountdown_cases (r : SlotRecord) : installedCountdown r = ⟨.stopped, 0⟩ ∨
    ∃ left ≤ 41942400, installedCountdown r = ⟨.running, left⟩ ∧ r.enabled = true ∧ isPeriodic r.trigger = true := by
  unfold installedCountdown
  split
  · next period phase he ht =>
    have := period.isLt
    have := phase.isLt
    refine .inr ⟨_, ?_, rfl, he, by rw [ht]; rfl⟩
    split <;> omega
  · exact .inl rfl

end Sys2Proof.Machine

namespace Sys2Proof.Safety.TriggerLaw

open Sys2Proof.Machine

variable {s : State} {n : SlotIx}

/-! ## Requests, expiries and trigger points -/

theorem raise (h : TriggerLaw s) (o : Origin) (n : SlotIx) : TriggerLaw (s.raise o n) :=
  h.calm (s.raise_calm o n) (s.raise_within o n)

theorem raiseAll (h : TriggerLaw s) (o : Origin) (f : SlotRecord → Bool) : TriggerLaw (s.raiseAll o f) :=
  h.calm (s.raiseAll_calm o f) (s.raiseAll_within o f)

theorem expire (h : TriggerLaw s) (hn : MayRun s n) : TriggerLaw (s.expire n) := by
  unfold State.expire
  split
  · next period _ _ =>
    refine (h.setCountdown ?_).raise _ _
    exact .of_running ((State.countdown_setCountdown ..).trans (if_pos rfl)) (s.tenMicros_reload_le n period) hn
  all_goals exact h

theorem periodicExpiry (h : TriggerLaw s) (n : SlotIx) : TriggerLaw (s.periodicExpiry n) := by
  unfold State.periodicExpiry
  split
  · next hc =>
    obtain hs | ⟨_, _, ⟨-, hr⟩ | ⟨hf, -⟩⟩ := (h n).1.cases
    · simp [hs] at hc
    · exact h.expire hr
    · simp [hf] at hc
  · exact h

/-- R53: a counter that reaches its decimation returns to 0, any other stays below it. -/
theorem countPoint (h : TriggerLaw s) (c : ChIx) (n : SlotIx) : TriggerLaw (State.countPoint c s n) := by
  unfold State.countPoint
  split
  · next channel d ht =>
    obtain ⟨low, high⟩ := (h n).2.lt ht
    have counted : ∀ k, k < d.toNat → TriggerLaw (s.setDecim n k) := fun k hk =>
      h.setDecim (.of_lt ht (by rw [State.decim_setDecim, if_pos rfl]; exact ⟨hk, high⟩))
    split
    · split
      · exact (counted 0 (by omega)).raise _ _
      · exact counted _ (by omega)
    · exact h
  all_goals exact h

theorem triggerPoint (h : TriggerLaw s) (c : ChIx) : TriggerLaw (s.triggerPoint c) :=
  List.foldlRecOn (motive := TriggerLaw) _ _ h fun _ ht n _ => ht.countPoint c n

theorem edge (h : TriggerLaw s) (pin : TrgPin) (l : Level) : TriggerLaw (s.edge pin l) := by
  unfold State.edge
  split
  · exact h.setTriggers rfl rfl
  · refine raiseAll ?_ _ _
    exact setTriggers (setTriggers h rfl rfl) rfl rfl

/-- R46: time shortens the countdowns that run, and no other. -/
theorem tick (h : TriggerLaw s) (k : Nat) : TriggerLaw (s.tick k) := by
  intro n
  have hc : (s.tick k).countdown n = (s.countdown n).tick k := tabulate_get ..
  refine ⟨?_, (h n).2⟩
  obtain hs | ⟨left, hl, ⟨hs, hr⟩ | ⟨hs, he, hp, hm, hg⟩⟩ := (h n).1.cases <;> rw [hs] at hc
  · exact .of_stopped hc
  · exact .of_running hc ((Nat.sub_le ..).trans hl) hr
  · exact .of_frozen hc hl ⟨he, hp⟩ hm hg

/-! ## PWM channels -/

theorem setChannel (h : TriggerLaw s) (c : ChIx) (x : Channel) : TriggerLaw (s.setChannel c x) :=
  h.within (s.setChannel_within c x)

theorem pointAtStart (h : TriggerLaw s) (c : ChIx) : TriggerLaw (s.pointAtStart c) := by
  unfold State.pointAtStart
  split
  · exact h.triggerPoint c
  · exact h

theorem periodEnd (h : TriggerLaw s) (c : ChIx) : TriggerLaw (s.periodEnd c) := by
  unfold State.periodEnd
  simp only
  split
  · exact (h.setChannel _ _).pointAtStart c
  · exact h

theorem pointReached (h : TriggerLaw s) (c : ChIx) : TriggerLaw (s.pointReached c) := by
  unfold State.pointReached
  simp only
  split
  · exact (h.setChannel _ _).triggerPoint c
  · exact h

theorem writePwmCtrl (h : TriggerLaw s) (c : ChIx) (d : Word) : TriggerLaw (s.writePwmCtrl c d) := by
  unfold State.writePwmCtrl
  simp only
  split
  · split
    · exact ((h.setChannel _ _).setChannel _ _).pointAtStart c
    · exact h.setChannel _ _
  · exact (h.setChannel _ _).setChannel _ _
  all_goals exact h.setChannel _ _

/-! ## Mode changes (R49, R178, R182) -/

/-- R49: at GUARD entry the countdowns that run for slots without the guard attribute are frozen. -/
theorem guardEntered (h : TriggerLaw s) : TriggerLaw s.guardEntered := by
  intro n
  have hc : s.guardEntered.countdown n = if (s.record n).guard then s.countdown n else (s.countdown n).freeze :=
    tabulate_get ..
  refine ⟨?_, (h n).2⟩
  cases hg : (s.record n).guard <;>
    obtain hs | ⟨left, hl, ⟨hs, he, hp, -⟩ | ⟨hs, he, hp, -, hg'⟩⟩ := (h n).1.cases <;> rw [hg, hs] at hc
  · exact .of_stopped hc
  · exact .of_frozen hc hl ⟨he, hp⟩ rfl hg
  · exact .of_frozen hc hl ⟨he, hp⟩ rfl hg
  · exact .of_stopped hc
  · exact .of_running hc hl ⟨he, hp, fun _ => hg⟩
  · cases hg.symm.trans hg'

theorem enterGuard (h : TriggerLaw s) : TriggerLaw s.enterGuard := by
  rw [s.enterGuard_eq]
  exact h.guardEntered.calm (State.guardAbort_calm _) (State.guardAbort_within _)

/-- One released occurrence, where an expiry is of a slot whose countdown may run. -/
theorem takeReleased (h : TriggerLaw s) {o : Released} (ho : ∀ n, o = .expiry n → MayRun s n) :
    TriggerLaw (s.takeReleased o) := by
  cases o with
  | expiry n => exact h.expire (ho n rfl)
  | point c => exact h.triggerPoint c

/-- R45: the released occurrences, in whichever order they are taken. -/
theorem takeAllReleased {k : Nat} {os : List Released} (h : TriggerLaw s) (hos : ∀ n, .expiry n ∈ os → MayRun s n) :
    TriggerLaw (State.takeAllReleased k os s) := by
  induction k generalizing os s with
  | zero => exact h
  | succ k ih =>
    match os with
    | [] => exact h
    | [o] => exact h.takeReleased fun n hn => hos n (by simp [hn])
    | o :: p :: os =>
      have hi : Config.exitPick s.choices % (o :: p :: os).length < (o :: p :: os).length := Nat.mod_lt _ (by simp)
      have used : TriggerLaw s.useChoice := h.within s.useChoice_within
      refine ih (used.takeReleased fun n hn => hos n ?_) fun n hn => ?_
      · rw [← hn, List.getD_eq_getElem _ _ hi]
        exact List.getElem_mem hi
      · exact (hos n (List.mem_of_mem_eraseIdx hn)).congr ((State.takeReleased_calm ..).record n)
          (congrArg ModeControl.mode (State.takeReleased_within ..).mode)

/-- R49: at a GUARD exit the frozen countdowns run on. -/
theorem thawed (h : TriggerLaw s) {m : ModeControl} (hm : m.mode = .active) :
    TriggerLaw (s.setMode m).thawCountdowns := by
  intro n
  have hc : (s.setMode m).thawCountdowns.countdown n = (s.countdown n).thaw := tabulate_get ..
  have hg : (s.setMode m).thawCountdowns.mode.mode ≠ .guard := fun hg => nomatch hm.symm.trans hg
  refine ⟨?_, (h n).2⟩
  obtain hs | ⟨left, hl, ⟨hs, he, hp, -⟩ | ⟨hs, he, hp, -⟩⟩ := (h n).1.cases <;> rw [hs] at hc
  · exact .of_stopped hc
  · exact .of_running hc hl ⟨he, hp, fun h => absurd h hg⟩
  · exact .of_running hc hl ⟨he, hp, fun h => absurd h hg⟩

/-- The expiries that a GUARD exit releases are of slots whose countdowns were frozen. -/
theorem periodic_of_released (h : TriggerLaw s) (hn : .expiry n ∈ s.released) :
    (s.record n).enabled = true ∧ isPeriodic (s.record n).trigger = true := by
  obtain ⟨hf, -⟩ : (s.countdown n).state = .frozen ∧ timeIsUp (s.countdown n).left = true := by
    simpa [State.released] using hn
  obtain hs | ⟨_, -, ⟨hs, -⟩ | ⟨-, he, hp, -⟩⟩ := (h n).1.cases
  · simp [hs] at hf
  · simp [hs] at hf
  · exact ⟨he, hp⟩

theorem leaveGuard (h : TriggerLaw s) (c : ExitCause) : TriggerLaw (s.leaveGuard c) := by
  have thawed := h.thawed (m := { s.mode with mode := .active, lastExit := c }) rfl
  have law := (thawed.within (State.occur_within _ .guardLeft)).within (State.startChannels_within _)
  refine law.takeAllReleased fun n hn => ?_
  obtain ⟨he, hp⟩ := h.periodic_of_released (n := n) hn
  exact ⟨he, hp, nofun⟩

theorem wakeExit (h : TriggerLaw s) (r : RuleIx) : TriggerLaw (s.wakeExit r) := by
  unfold State.wakeExit
  split
  · exact h.leaveGuard _
  · exact h

/-! ## Watch rules and deliveries -/

theorem occurIf (h : TriggerLaw s) (b : Bool) (k : EventKind) : TriggerLaw (s.occurIf b k) :=
  h.within (s.occurIf_within b k)

theorem snapshotRequest (h : TriggerLaw s) (r : RuleIx) : TriggerLaw (s.snapshotRequest r) :=
  h.calm (s.snapshotRequest_calm r) (s.snapshotRequest_within r)

/-- R111: the request and the exit keep the law in either order. -/
theorem snapshotAndExit (h : TriggerLaw s) (r : RuleIx) : TriggerLaw (s.snapshotAndExit r) := by
  have used : TriggerLaw s.useChoice := h.within s.useChoice_within
  unfold State.snapshotAndExit
  simp only
  split
  · split
    · split
      · exact ((used.snapshotRequest r).occurIf _ _).wakeExit r
      · exact ((used.occurIf _ _).wakeExit r).snapshotRequest r
    · exact (h.occurIf _ _).wakeExit r
  · exact (h.snapshotRequest r).occurIf _ _

theorem setRuleRt (h : TriggerLaw s) (r : RuleIx) (x : RuleRuntime) : TriggerLaw (s.setRuleRt r x) :=
  h.within (s.setRuleRt_within r x)

theorem trip (h : TriggerLaw s) (r : RuleIx) (res : ResultRecord) : TriggerLaw (s.trip r res) := by
  have marked := h.setRuleRt r { s.ruleRt r with state := .tripped, run := 0 }
  have placed := (marked.within (State.placeClaims_within _ r)).within (State.faultUpdate_within _)
  exact (((placed.within (State.logTrip_within ..)).setRuleRt r _).snapshotAndExit r).setRuleRt r _

/-- R110, R113: an evaluation trips the rule, releases it or moves it. -/
theorem judge (h : TriggerLaw s) (r : RuleIx) (res : ResultRecord) : TriggerLaw (s.judge r res) := by
  have moved : ∀ x run, TriggerLaw (s.moveRule r x run) := fun x run => h.within (s.moveRule_within r x run)
  have counted : ∀ run, TriggerLaw (s.countQualifying r res run) := by
    intro run
    unfold State.countQualifying
    split
    · exact h.trip r res
    · exact moved _ _
  unfold State.judge
  split
  -- no evaluation; a qualifying result; back to CLEAR; a releasing result; back to TRIPPED
  iterate 3 exact h
  iterate 2 exact counted _
  iterate 4 exact moved _ _
  iterate 2 exact h.within (s.countReleasing_within r _)
  iterate 4 exact moved _ _

theorem evaluate (h : TriggerLaw s) (a : SlotIx) (res : ResultRecord) (r : RuleIx) :
    TriggerLaw (State.evaluate a res s r) := by
  unfold State.evaluate
  split
  · exact (h.judge r res).within (State.keepPrevious_within ..)
  · exact h

theorem deliver (h : TriggerLaw s) (d : Delivery) : TriggerLaw (s.deliver d) := by
  have stored := (h.within (s.writeResult_within d)).within (State.captureResult_within _ d.slot)
  unfold State.deliver State.requestFollowers State.evaluateRules
  refine raiseAll ?_ _ _
  exact List.foldlRecOn (motive := TriggerLaw) _ _ stored fun _ ht r _ => ht.evaluate _ _ r

/-! ## The engine -/

theorem setOutcome (h : TriggerLaw s) (n : SlotIx) (o : LastOutcome) : TriggerLaw (s.setOutcome n o) :=
  h.calm (s.setOutcome_calm n o) (s.setOutcome_within n o)

/-- R68: the delivery may have changed the mode, the rest of the job's end does not. -/
theorem endStored (h : TriggerLaw s) (j : Job) : TriggerLaw (s.endStored j) := by
  have ended := ((h.deliver (j.validResult s.now)).setOutcome j.slot .stored).within (State.setEngine_within _ .idle)
  exact ended.within (State.grant_within _)

theorem afterSample (h : TriggerLaw s) (j : Job) : TriggerLaw (s.afterSample j) := by
  unfold State.afterSample
  split
  · exact h.calm (s.endStale_calm j) (s.endStale_within j)
  · split
    · exact h.endStored j
    · split
      · exact h.calm (s.suspend_calm j) (s.suspend_within j)
      · exact h.within (s.startSample_within j)

theorem completion (h : TriggerLaw s) (k : Nat) (raw : Code12) : TriggerLaw (s.completion k raw) := by
  unfold State.completion
  split
  · split
    · exact h.afterSample _
    · exact h
  all_goals exact h

theorem endFailed (h : TriggerLaw s) (j : Job) : TriggerLaw (s.endFailed j) := by
  unfold State.endFailed
  split
  · exact h.setOutcome _ _
  · exact (h.deliver _).setOutcome _ _

theorem deadlineExpiry (h : TriggerLaw s) : TriggerLaw s.deadlineExpiry := by
  unfold State.deadlineExpiry
  split
  · next j _ =>
    split
    · exact ((h.endFailed j).within (State.enterFaulted_within ..)).within (State.occur_within ..)
    · exact h
  all_goals exact h

/-! ## COMMIT (R15 to R19) -/

/-- R19: the triggers of the new record start anew, in ACTIVE and with its parameters in their ranges. -/
theorem installedBase (h : TriggerLaw s) (hm : s.mode.mode = .active) (n : SlotIx) {r : SlotRecord}
    (hr : TriggerRange r.trigger) : TriggerLaw (s.installedBase n r) := by
  intro m
  have hrec : (s.installedBase n r).record m = if m = n then r else s.record m := get_set ..
  have hc : (s.installedBase n r).countdown m = if m = n then installedCountdown r else s.countdown m := get_set ..
  have hd : (s.installedBase n r).decim m = if m = n then 0 else s.decim m := get_set ..
  by_cases hmn : m = n
  · rw [if_pos hmn] at hrec hc hd
    refine ⟨?_, .of_zero hd (by rwa [hrec])⟩
    obtain hi | ⟨left, hl, hi, he, hp⟩ := installedCountdown_cases r <;> rw [hi] at hc
    · exact .of_stopped hc
    · refine .of_running hc hl ?_
      rw [MayRun, hrec]
      exact ⟨he, hp, fun hg => nomatch hm.symm.trans hg⟩
  · rw [if_neg hmn] at hrec hc hd
    exact ⟨(h m).1.congr hrec hc rfl, (h m).2.congr hrec hd⟩

theorem commit (h : TriggerLaw s) : TriggerLaw s.commit.state := by
  cases hm : s.mode.mode with
  | guard => rwa [State.commit_state_guard hm]
  | active =>
    obtain ⟨_, _, hc⟩ | ⟨n, r, -, -, hd, hr, hc⟩ | ⟨n, r, -, -, -, -, -, hc⟩ := s.commit_cases <;> rw [hc]
    · exact h
    · have range : TriggerRange r.trigger := by
        rw [SlotFields.toRecord_trigger hr]
        exact (State.slotDetail_eq_none hd).triggerRange
      have installed : TriggerLaw (s.installSlot n r) := by
        rw [s.installSlot_eq n r hm]
        exact (h.installedBase hm n range).within (s.requestIfDue_within n r)
      exact installed.within (State.stageInstalledSlot_within ..)
    · exact (h.within (s.installRule_within n r)).within (State.stageInstalledRule_within ..)

end Sys2Proof.Safety.TriggerLaw
end

section
/-! PROOF. Every step keeps the law of the countdowns and decimation counters (R46, R49, R53). -/

namespace Sys2Proof.Machine

open Sys2Proof.Safety

/-- R46, R53: a reset stops every countdown and clears every counter. -/
theorem triggerLaw_resetAll (s : State) (c : ResetCause) (b : Bool) : TriggerLaw (s.resetAll c b) := by
  intro n
  have hr : (s.resetAll c b).record n = SlotRecord.reset := by simp [State.resetAll, State.reset, State.record]
  have hc : (s.resetAll c b).countdown n = ⟨.stopped, 0⟩ := by
    simp [State.resetAll, TriggerSources.reset, State.countdown, Countdown.reset]
  have hd : (s.resetAll c b).decim n = 0 := by simp [State.resetAll, TriggerSources.reset, State.decim]
  exact ⟨.of_stopped hc, .of_zero hd (by rw [hr]; trivial)⟩

theorem Command.effect_triggerLaw (c : Command) (arg : Byte) (s : State) (hc : c ≠ .softReset) (h : TriggerLaw s) :
    TriggerLaw (c.effect arg s).state := by
  have hw := c.effect_within arg s hc
  cases c
  case softReset => exact absurd rfl hc
  case commit => exact h.commit
  case guardEnter =>
    simp only [Command.effect, State.guardEnter]
    repeat' split
    iterate 3 exact h
    exact h.enterGuard
  case guardExit =>
    simp only [Command.effect, State.guardExit]
    split
    · exact h.leaveGuard _
    · exact h
  all_goals exact h.calm (Command.effect_calm _ arg s hc nofun) hw

theorem Reg.writeEffect_triggerLaw (r : Reg) (d : Word) (f : State → State) (s : State) (hf : r.writeEffect d = some f)
    (h : TriggerLaw s) : TriggerLaw (f s) := by
  have hw := Reg.writeEffect_within r d f s hf
  cases r <;> simp only [writeBlocks] at hw
  case pwmCtrl c => cases hf; exact h.writePwmCtrl c d
  case guardCtrl => cases hf; exact h
  all_goals exact h.within hw

theorem kept_triggerLaw : Kept TriggerLaw where
  quiet k h := h.within k.within
  command c arg s hc := c.effect_triggerLaw arg s hc
  write r d f s hf := r.writeEffect_triggerLaw d f s hf
  captureTime s h := h.setTriggers rfl rfl
  captureEntry s h := h.within s.captureEntry_within
  captureJob s h := h.within s.captureJob_within
  captureFault s h := h.within s.captureFault_within
  resetAll s c b _ := triggerLaw_resetAll s c b
  resetEnd s h := h.setTriggers rfl rfl
  completion s k raw h := h.completion k raw
  deadlineExpiry s h := h.deadlineExpiry
  tick s k h := h.tick k
  periodicExpiry s n h := h.periodicExpiry n
  edge s pin l h := h.edge pin l
  pointReached s c h := h.pointReached c
  periodEnd s c h := h.periodEnd c
  dutyEnd s c h := h.within (s.dutyEnd_within c)
  softStartExpiry s n h := h.within (s.setSwitch_within n _)
  refillExpiry s n h := h.within (s.setSwitch_within n _)
  retryExpiry s n h := h.within (s.setSwitch_within n _)
  currentLimit s n h := h.within (s.currentLimit_within n)

/-- Settles O54: every part of a step keeps the law. Where a countdown is set running its slot is one that may run: it ran
or was frozen before, or COMMIT has just installed it as ENABLED and PERIODIC. -/
theorem triggerLawKept : Obligations.TriggerLawKept :=
  fun _ _ hs ht => kept_triggerLaw.step hs ht

end Sys2Proof.Machine
end

section
/-! PROOF. The passing of time, and the reads of the time counter (R43, R44, R46, R128, R151, R168). -/

namespace Sys2Proof.Machine

open Sys2Proof.Safety

namespace Channel

variable (x : Channel)

/-! ## Time taken up (R151, log 5) -/

theorem position_le_catchUp : x.position ≤ x.catchUp.position := Nat.le_add_right ..

/-- Time is left owed only at the unit before the next event. -/
theorem catchUp_owed_zero_or : x.catchUp.owed = 0 ∨ x.nextPoint ≤ x.catchUp.position + 1 := by
  simp only [catchUp]
  omega

theorem catchUp_position_lt_nextPoint (h : x.position < x.nextPoint) : x.catchUp.position < x.nextPoint := by
  simp only [catchUp]
  omega

/-- A position at its next event, or beyond, stands. -/
theorem catchUp_position_of_nextPoint_le (h : x.nextPoint ≤ x.position) : x.catchUp.position = x.position := by
  simp only [catchUp]
  omega

/-- The points still to come in this period: the trigger point, the end of the pulse, and the end of the period. -/
def pointsAhead : List Nat :=
  (if x.trigDone = false ∧ x.trig.toNat < x.period.toNat then [x.trig.toNat] else []) ++
    (if x.position < x.duty.toNat ∧ x.duty.toNat < x.period.toNat then [x.duty.toNat] else []) ++ [x.period.toNat]

theorem mem_pointsAhead (p : Nat) : p ∈ x.pointsAhead ↔
    (x.trigAhead = true ∧ p = x.trig.toNat) ∨ (x.dutyAhead = true ∧ p = x.duty.toNat) ∨ p = x.period.toNat := by
  rw [trigAhead_iff, dutyAhead_iff, pointsAhead, List.mem_append, List.mem_append, List.mem_ite_nil_right,
    List.mem_ite_nil_right, List.mem_singleton, List.mem_singleton, List.mem_singleton, or_assoc]

/-- The next event is the first of them. -/
theorem nextPoint_le_of_mem {p : Nat} (h : p ∈ x.pointsAhead) : x.nextPoint ≤ p := by
  obtain ⟨ha, rfl⟩ | ⟨ha, rfl⟩ | rfl := (x.mem_pointsAhead p).1 h
  · exact x.nextPoint_le_trig ha
  · exact x.nextPoint_le_duty ha
  · exact x.nextPoint_le

end Channel

/-! ## What a tick does to each timer -/

theorem Countdown.tick_eq (c : Countdown) (k : Nat) :
    c.tick k = if c.state = .running then { c with left := c.left - k } else c := by
  obtain ⟨state, left⟩ := c
  cases state <;> rfl

namespace State

variable (s : State) (k : Nat)

theorem countdown_tick (n : SlotIx) : (s.tick k).countdown n = (s.countdown n).tick k := tabulate_get ..

theorem switch_tick (n : SwIx) : (s.tick k).switch n = (s.switch n).tick k := tabulate_get ..

theorem channel_tick (c : ChIx) : (s.tick k).channel c = (s.channel c).tick k := tabulate_get ..

end State

/-- Settles O24: what catching up does to a position, what its next event is, and each timer of the tick. -/
theorem timePasses : Obligations.TimePasses := by
  refine ⟨fun x => ?position, fun x => ?point, fun s k => ⟨fun hr => ?passes, fun hr => ?reset⟩⟩
  case position =>
    exact ⟨rfl, x.catchUp_total, x.position_le_catchUp, x.catchUp_owed_zero_or, x.catchUp_position_lt_nextPoint,
      x.catchUp_position_of_nextPoint_le⟩
  case point => exact ⟨(x.mem_pointsAhead _).2 x.nextPoint_cases, fun _ => x.nextPoint_le_of_mem⟩
  case passes =>
    have row : exec (.timeCounterTick k) s = .next (s.tick k) :=
      congrArg Host.Outcome.next (if_neg (Bool.eq_false_iff.1 hr))
    exact ⟨s.tick k, row, rfl, fun n => (s.countdown_tick k n).trans (Countdown.tick_eq _ k), s.switch_tick k,
      s.channel_tick k, rfl, s.tick_within k⟩
  case reset => exact congrArg Host.Outcome.next (if_pos hr)

/-- Settles O25: the low half as the read answers it, and the high half of what was captured. -/
theorem timeRead : Obligations.TimeRead := by
  intro s hr
  have low : (s.captureTime).triggers.timeCapture.setWidth 16 = field s.triggers.time 0 16 :=
    BitVec.setWidth_eq_extractLsb' (by decide)
  have row := State.hostRead_answered hr 0x04 State.captureTime fun t => t.triggers.timeCapture.setWidth 16
  exact ⟨congrArg Host.Outcome.next (row.trans (congrArg _ low)), rfl⟩

end Sys2Proof.Machine
end

section
/-! PROOF. The expiry of a countdown, the edges of a trigger pin and TRIGGER (R45, R47, R48, R51, R52, R57). -/

namespace Sys2Proof.Machine

open Sys2Proof.Safety

/-! ## Periodic expiry -/

/-- R47, R48: the reload, then the request if a source may raise it. -/
theorem State.expire_periodic {s : State} {n : SlotIx} {period phase : Word}
    (ht : (s.record n).trigger = .periodic period phase) :
    s.expire n = (s.setCountdown n ⟨.running, 10 * s.reload n period⟩).raise .periodic n := by
  simp only [State.expire, ht, tenMicros]

/-- Settles O26: the reload and the request of the statement are those of the model, and the row asks first. -/
theorem periodicExpiry : Obligations.PeriodicExpiry := by
  intro s n
  refine ⟨fun period phase hs hl ht => ?taken, fun h => ?other⟩
  case taken =>
    intro factor t
    have due : s.periodicExpiry n = s.expire n := if_pos ⟨hs, by rw [hl]; rfl⟩
    refine congrArg Host.Outcome.next (due.trans ?_)
    rw [State.expire_periodic ht, State.reload_eq, State.raise_eq]
    rfl
  case other =>
    refine congrArg Host.Outcome.next (if_neg fun ⟨hs, hl⟩ => ?_)
    exact h.elim (fun hn => hn hs) fun hn => hn (by simpa [timeIsUp] using hl)

/-! ## Edges -/

/-- R52: the records that an edge of `pin` to `level` triggers. -/
def edgeSource (pin : TrgPin) (level : Level) (r : SlotRecord) : Bool :=
  match r.trigger with
  | .pin p e => p == pin && e.matches level
  | .hostOnly | .periodic _ _ | .follow _ | .pwm _ _ => false

namespace State

variable {s : State} {pin : TrgPin} {level : Level}

/-- R51: no edge, in reset or at the level already taken. -/
theorem edge_none (h : s.port.inReset = true ∨ s.triggers.pinRef.get pin = level) :
    s.edge pin level = s.setTriggers { s.triggers with pinLevel := s.triggers.pinLevel.set pin level } := if_pos h

/-- R51, R52: an edge becomes the reference, and its requests are those that could be raised as it came. -/
theorem edge_taken (hr : Ready s) (h : s.triggers.pinRef.get pin ≠ level) :
    s.edge pin level = requestEach .pin (raisable s (edgeSource pin level)) (s.setTriggers { s.triggers with
      pinLevel := s.triggers.pinLevel.set pin level, pinRef := s.triggers.pinRef.set pin level }) :=
  (if_neg (not_or.2 ⟨Bool.eq_false_iff.1 hr, h⟩)).trans (raiseAll_eq ..)

end State

/-- Settles O27: a level is compared with the reference of its pin, and the edges of a PIN record are told apart. -/
theorem trgEdge : Obligations.TrgEdge := by
  intro s pin level levels old selected
  have hold : s.triggers.pinRef.get pin = old := by cases pin <;> rfl
  have hlevels : (fun p : PinPair => p.set pin level) = levels := by cases pin <;> rfl
  have hselected : edgeSource pin level = selected := by
    funext r
    simp only [selected, edgeSource]
    cases r.trigger with
    | pin p e => cases e <;> cases level <;> simp [Edge.matches]
    | hostOnly | periodic | follow | pwm => rfl
  rw [← hold, ← hlevels, ← hselected]
  exact ⟨fun hr hne => congrArg Host.Outcome.next (State.edge_taken hr hne),
    fun h => congrArg Host.Outcome.next (State.edge_none h)⟩

/-! ## TRIGGER -/

/-- R57: what the command ends with, where its argument names a slot. -/
theorem State.trigger_num (s : State) (n : SlotIx) : State.trigger (num 8 n) s =
    if (s.record n).enabled = false then .result s .notEnabled
    else if s.mode.mode = .guard ∧ (s.record n).guard = false then .result s .guardActive
    else if s.queue.holds n then .result s .merged
    else .result (s.request .host n) .ok := by
  have merged : s.queue.holds n = true → s.request .host n = s := fun h => State.request_of_holds .host h
  rw [State.trigger, withIndex_num (by decide)]
  simp only [Bool.not_eq_true']
  by_cases hq : s.queue.holds n = true
  · rw [merged hq, if_pos hq, if_pos hq]
  · rw [if_neg hq, if_neg hq]

/-- The row of TRIGGER, from what its effect ends with. -/
theorem State.exec_trigger {s t : State} {b : Byte} {r : ResultCode} (hr : Ready s) (he : State.trigger b s = .result t r) :
    exec (.trigger b) s = .next (finished t 0x10 b r) :=
  congrArg Host.Outcome.next (State.hostCommand_finished (c := .trigger) hr he)

/-- Settles O29: the command ends with the first of its refusals that applies, else with the merge or the request. -/
theorem triggerCommand : Obligations.TriggerCommand := by
  refine ⟨fun s b hr hb => State.exec_trigger hr (withIndex_ge hb), fun s n hr => ?_⟩
  have effect := s.trigger_num n
  split
  · next he => exact State.exec_trigger hr (effect.trans (if_pos he))
  · next he =>
    replace effect := effect.trans (if_neg he)
    split
    · next hg => exact State.exec_trigger hr (effect.trans (if_pos hg))
    · next hg =>
      replace effect := effect.trans (if_neg hg)
      split
      · next hq => exact State.exec_trigger hr (effect.trans (if_pos hq))
      · next hq => exact State.exec_trigger hr (effect.trans (if_neg hq))

end Sys2Proof.Machine
end

section
/-! PROOF. A trigger-point event as one update of the counters and the requests it brings about (R45, R53, R159). -/

namespace Sys2Proof.Machine

open Sys2Proof.Safety

namespace State

variable (s : State) (c : ChIx)

/-! ## Requests and counters apart -/

/-- All decimation counters at once. -/
def setDecims (d : Vector Nat 32) : State := s.setTriggers { s.triggers with decims := d }

theorem setDecims_setDecim (n : SlotIx) (k : Nat) (d : Vector Nat 32) :
    (s.setDecim n k).setDecims d = s.setDecims d := rfl

theorem setDecim_self (n : SlotIx) : s.setDecim n (s.decim n) = s := by simp [setDecim, decim]

theorem setDecims_self : s.setDecims (tabulate s.decim) = s := by
  have same : tabulate s.decim = s.triggers.decims := Vector.ext fun i hi => tabulate_getElem _ i hi
  rw [same]
  rfl

theorem grant_setDecims (d : Vector Nat 32) : (s.setDecims d).grant = s.grant.setDecims d := by
  by_cases hi : s.engine.state = .idle
  · cases hu : s.queue.urgent with
    | cons e es => rw [grant_urgent hi hu, grant_urgent (s := s.setDecims d) hi hu]; rfl
    | nil =>
      cases hn : s.queue.normal with
      | cons e es => rw [grant_normal hi hu hn, grant_normal (s := s.setDecims d) hi hu hn]; rfl
      | nil => rw [grant_empty hu hn, grant_empty (s := s.setDecims d) hu hn]
  · rw [grant_of_not_idle hi, grant_of_not_idle (s := s.setDecims d) hi]

/-- A request reads none of the counters and changes none. -/
theorem request_setDecims (o : Origin) (n : SlotIx) (d : Vector Nat 32) :
    (s.setDecims d).request o n = (s.request o n).setDecims d := by
  cases hq : s.queue.holds n with
  | true =>
    rw [request_of_holds o hq, request_of_holds (s := s.setDecims d) o hq]
    split <;> rfl
  | false =>
    rw [request_of_not_holds s hq, request_of_not_holds (s.setDecims d) hq]
    exact grant_setDecims (s.setQueue _) d

/-! ## One slot -/

/-- R53: the decimation of slot `n`, if it is one that counts the events of channel `c`. -/
def counting (n : SlotIx) : Option (BitVec 5) :=
  match (s.record n).trigger with
  | .pwm channel decimation => if (s.record n).enabled ∧ channel = c then some decimation else none
  | .hostOnly | .periodic _ _ | .follow _ | .pin _ _ => none

theorem counting_eq_some_iff (n : SlotIx) (d : BitVec 5) :
    s.counting c n = some d ↔ (s.record n).enabled = true ∧ (s.record n).trigger = .pwm c d := by
  unfold counting
  cases (s.record n).trigger with
  | pwm channel decimation => simp [and_assoc]
  | hostOnly | periodic | follow | pin => simp

variable {s c} in
theorem countPoint_of_counting {n : SlotIx} {d : BitVec 5} (h : s.counting c n = some d) : countPoint c s n =
    if s.decim n + 1 = d.toNat then (s.setDecim n 0).raise .pwm n else s.setDecim n (s.decim n + 1) := by
  obtain ⟨he, ht⟩ := (s.counting_eq_some_iff c n d).1 h
  simp [countPoint, he, ht]

variable {s c} in
theorem countPoint_of_not_counting {n : SlotIx} (h : s.counting c n = none) : countPoint c s n = s := by
  unfold counting at h
  unfold countPoint
  cases ht : (s.record n).trigger with
  | pwm channel decimation =>
    rw [ht] at h
    exact if_neg fun hc => nomatch (if_pos hc).symm.trans h
  | hostOnly | periodic | follow | pin => rfl

/-- R53: the counter of slot `n` after one event of channel `c`. -/
def pointCount (n : SlotIx) : Nat :=
  match s.counting c n with
  | some decimation => if s.decim n + 1 = decimation.toNat then 0 else s.decim n + 1
  | none => s.decim n

/-- R53: one event of channel `c` brings the counter of slot `n` to its decimation. -/
def pointDue (n : SlotIx) : Bool :=
  match s.counting c n with
  | some decimation => s.decim n + 1 == decimation.toNat
  | none => false

variable {s} in
theorem pointCount_congr {t : State} {n : SlotIx} (hr : t.record n = s.record n) (hd : t.decim n = s.decim n) :
    t.pointCount c n = s.pointCount c n := by
  simp only [pointCount, counting, hr, hd]

variable {s} in
theorem pointDue_congr {t : State} {n : SlotIx} (hr : t.record n = s.record n) (hd : t.decim n = s.decim n) :
    t.pointDue c n = s.pointDue c n := by
  simp only [pointDue, counting, hr, hd]

variable {s c} in
/-- Only an ENABLED slot counts. -/
theorem enabled_of_pointDue {n : SlotIx} (h : s.pointDue c n = true) : (s.record n).enabled = true := by
  unfold pointDue at h
  cases hc : s.counting c n with
  | none => rw [hc] at h; cases h
  | some d => exact ((s.counting_eq_some_iff c n d).1 hc).1

/-- R53: the counter moves, and a slot that is due is requested if a source may raise it. -/
theorem countPoint_eq (n : SlotIx) : countPoint c s n =
    if s.pointDue c n && s.mayRaise n then (s.setDecim n (s.pointCount c n)).request .pwm n
    else s.setDecim n (s.pointCount c n) := by
  unfold pointDue pointCount
  cases hc : s.counting c n with
  | none => exact (countPoint_of_not_counting hc).trans (s.setDecim_self n).symm
  | some d =>
    rw [countPoint_of_counting hc]
    by_cases hd : s.decim n + 1 = d.toNat
    · simp only [hd, if_true, beq_self_eq_true, Bool.true_and]
      rfl
    · simp [hd]

/-! ## All slots -/

theorem decim_countPoint (n m : SlotIx) :
    (countPoint c s n).decim m = if m = n then s.pointCount c n else s.decim m := by
  rw [countPoint_eq]
  split
  · rw [(request_within ..).decim, decim_setDecim]
  · rw [decim_setDecim]

theorem setDecims_countPoint (n : SlotIx) (d : Vector Nat 32) : (countPoint c s n).setDecims d =
    if s.pointDue c n && s.mayRaise n then (s.setDecims d).request .pwm n else s.setDecims d := by
  rw [countPoint_eq]
  split
  · rw [← request_setDecims, setDecims_setDecim]
  · rfl

/-- The slots count one by one, each from the counter it had as the event came. -/
theorem foldl_countPoint (l : List SlotIx) (hl : l.Nodup) : l.foldl (countPoint c) s =
    requestEach .pwm (l.filter fun n => s.pointDue c n && s.mayRaise n)
      (s.setDecims (tabulate fun n => if n ∈ l then s.pointCount c n else s.decim n)) := by
  induction l generalizing s with
  | nil => exact s.setDecims_self.symm
  | cons a l ih =>
    obtain ⟨ha, hl⟩ := List.nodup_cons.1 hl
    have hrec : ∀ n, (countPoint c s a).record n = s.record n := (s.countPoint_calm c a).record
    have hmode : (countPoint c s a).mode = s.mode := (s.countPoint_within c a).mode
    have hdec : ∀ n ∈ l, (countPoint c s a).decim n = s.decim n := fun n hn =>
      (s.decim_countPoint c a n).trans (if_neg fun h : n = a => ha (h ▸ hn))
    have hfilter : (l.filter fun n => (countPoint c s a).pointDue c n && (countPoint c s a).mayRaise n) =
        l.filter fun n => s.pointDue c n && s.mayRaise n :=
      List.filter_congr fun n hn => by
        rw [pointDue_congr c (hrec n) (hdec n hn), mayRaise, mayRaise, hrec, hmode]
    have hcounts : (fun n => if n ∈ l then (countPoint c s a).pointCount c n else (countPoint c s a).decim n) =
        fun n => if n ∈ a :: l then s.pointCount c n else s.decim n := by
      funext n
      by_cases hn : n ∈ l
      · rw [if_pos hn, if_pos (List.mem_cons_of_mem _ hn), pointCount_congr c (hrec n) (hdec n hn)]
      · rw [if_neg hn, decim_countPoint]
        simp only [List.mem_cons, hn, or_false]
        split
        · next h => rw [h]
        · rfl
    rw [List.foldl_cons, ih _ hl, hfilter, hcounts, setDecims_countPoint, List.filter_cons]
    split <;> rfl

theorem triggerPoint_eq : s.triggerPoint c =
    requestEach .pwm ((List.finRange 32).filter fun n => s.pointDue c n && s.mayRaise n)
      (s.setDecims (tabulate (s.pointCount c))) := by
  have all : (fun n : SlotIx => if n ∈ List.finRange 32 then s.pointCount c n else s.decim n) = s.pointCount c :=
    funext fun n => if_pos (List.mem_finRange n)
  rw [triggerPoint, foldl_countPoint s c _ (List.nodup_finRange 32), all]

end State

/-- Settles O28: the statement's counters and due slots are those of the event as one update. -/
theorem triggerPointCounted : Obligations.TriggerPointCounted := by
  intro s c counts due
  have hcounts : ∀ n, s.counting c n = counts n := by
    intro n
    simp only [counts, State.counting]
    cases (s.record n).trigger <;> cases (s.record n).enabled <;> simp
  have hdue : ∀ n, (s.pointDue c n && s.mayRaise n) = (due n && (s.mode.mode == .active || (s.record n).guard)) := by
    intro n
    have same : s.pointDue c n = match counts n with
        | some decimation => s.decim n + 1 == decimation.toNat
        | none => false := by
      rw [← hcounts]
      rfl
    rw [show due n = s.pointDue c n from same.symm]
    cases hd : s.pointDue c n with
    | false => rfl
    | true => simp [State.mayRaise, State.enabled_of_pointDue hd]
  have hcount : ∀ n, s.pointCount c n = match counts n with
      | some decimation => if s.decim n + 1 = decimation.toNat then 0 else s.decim n + 1
      | none => s.decim n := by
    intro n
    rw [← hcounts]
    rfl
  rw [State.triggerPoint_eq, funext hdue, funext hcount]
  rfl

end Sys2Proof.Machine
end

section
/-! SUPPORT. What a completion, a deadline expiry and the engine's commands do, case by case (R63 to R74). -/

namespace Sys2Proof.Machine

open Sys2Proof.Safety

/-! ## Counting a sample (R65) -/

namespace Job

variable {j : Job} (raw : Code12)

theorem rawCode_bits12 (h : j.res = .bits12) : j.rawCode raw = raw.toNat := by rw [rawCode, h]

theorem rawCode_bits10 (h : j.res = .bits10) : j.rawCode raw = raw.toNat % 1024 := by
  simp [rawCode, h]

end Job

namespace State

variable {s : State} {j : Job} {sample : Nat} {raw : Code12}

/-! ## SAMPLE_COMPLETION (R64, R66) -/

theorem completion_no_job (h : s.engine.state = .idle ∨ s.engine.state = .faulted) : s.completion sample raw = s := by
  unfold completion
  obtain h | h := h <;> rw [h]

theorem completion_busy (h : s.engine.state = .busy j) : s.completion sample raw =
    if j.sampleId = sample ∧ s.completes j then s.afterSample (j.addSample raw) else s := by
  rw [completion, h]

variable (s j) in
/-- R33, R34, as one update: what waits of the slot in NORMAL counts as an overrun and leaves with the job's return. -/
theorem suspend_eq : s.suspend j =
    (((if s.queue.normal.any fun e => e.slot == j.slot then s.countOverrun j.slot else s).setQueue
      { s.queue with normal := j.toEntry :: s.queue.normal.filter fun e => e.slot != j.slot }).setEngine .idle).grant := by
  rw [suspend, absorbPlain_normal, absorbPlain_urgent, absorbPlain]
  split <;> rfl

/-- R67. -/
theorem afterSample_withdrawn (hw : j.withdrawn = true) : s.afterSample j = s.endStale j := if_pos hw

/-- R68. -/
theorem afterSample_finished (hw : j.withdrawn = false) (hd : j.done = j.avg.count) : s.afterSample j = s.endStored j := by
  simp [afterSample, hw, hd]

/-- R33. -/
theorem afterSample_suspended (hw : j.withdrawn = false) (hd : j.done ≠ j.avg.count) (hc : j.cls = .normal)
    (hu : s.queue.urgent ≠ []) : s.afterSample j = s.suspend j := by
  simp [afterSample, hw, hd, hc, hu]

/-- R66. -/
theorem afterSample_next (hw : j.withdrawn = false) (hd : j.done ≠ j.avg.count)
    (h : j.cls = .urgent ∨ s.queue.urgent = []) : s.afterSample j = s.startSample j := by
  have stays : ¬(j.cls = .normal ∧ s.queue.urgent ≠ []) := by
    rintro ⟨hc, hu⟩
    obtain h | h := h
    · cases hc.symm.trans h
    · exact hu h
  simp only [afterSample, hw, hd, stays, if_false, Bool.false_eq_true]

/-! ## DEADLINE_EXPIRY (R69) -/

theorem deadlineExpiry_busy (h : s.engine.state = .busy j) : s.deadlineExpiry =
    if s.deadlineReached j then ((s.endFailed j).enterFaulted (j.faultRecord s.now)).occur .converterFault else s := by
  rw [deadlineExpiry, h]

theorem deadlineReached_iff : s.deadlineReached j = true ↔
    deadlineMicros j.acq j.res ≤ (s.now - j.sampleStart).toNat := by
  rw [← j.deadline_eq]
  exact decide_eq_true_iff

theorem deadlineExpiry_early (h : ∀ j, s.engine.state = .busy j → s.deadlineReached j = false) : s.deadlineExpiry = s := by
  cases he : s.engine.state with
  | busy j => rw [deadlineExpiry_busy he, h j he, if_neg Bool.false_ne_true]
  | idle => rw [deadlineExpiry, he]
  | faulted => rw [deadlineExpiry, he]

/-! ## ABORT and RESTART_CONVERTER (R72, R74) -/

theorem abort_busy (h : s.engine.state = .busy j) : s.abort = .result (s.abandonJob j) .ok := by rw [abort, h]

theorem abort_no_job (h : s.engine.state = .idle ∨ s.engine.state = .faulted) : s.abort = .result s .nothingToAbort := by
  unfold abort
  obtain h | h := h <;> rw [h]

theorem restartConverter_faulted (h : s.engine.state = .faulted) :
    s.restartConverter = .result (s.setEngine .idle).grant .ok := by rw [restartConverter, h]

theorem restartConverter_not_faulted (h : s.engine.state ≠ .faulted) : s.restartConverter = .result s .notFaulted := by
  unfold restartConverter
  split
  · contradiction
  all_goals rfl

variable {t : State} {arg : Byte} {r : ResultCode}

/-- The row of ABORT, from what its effect ends with. -/
theorem exec_abort (hr : Ready s) (h : s.abort = .result t r) : exec (.abort arg) s = .next (finished t 0x11 arg r) :=
  congrArg Host.Outcome.next (hostCommand_finished (c := .abort) hr h)

/-- The row of RESTART_CONVERTER, from what its effect ends with. -/
theorem exec_restartConverter (hr : Ready s) (h : s.restartConverter = .result t r) :
    exec (.restartConverter arg) s = .next (finished t 0x12 arg r) :=
  congrArg Host.Outcome.next (hostCommand_finished (c := .restartConverter) hr h)

end State

end Sys2Proof.Machine
end

section
/-! PROOF. The completion and the deadline of a sample, ABORT and RESTART_CONVERTER (R63 to R70, R72, R74). -/

namespace Sys2Proof.Machine

open Sys2Proof.Safety

/-! ## The completion of a sample -/

/-- Settles O30: a completion at its time leads to what follows a completed sample, which is one of the four ends. -/
theorem sampleCompletion : Obligations.SampleCompletion := by
  intro s sample raw age
  refine ⟨fun h => ?discarded, fun j hb hid hmin hmax => ?taken⟩
  case discarded =>
    refine congrArg Host.Outcome.next ?_
    obtain h | h | ⟨j, hb, h⟩ := h
    · exact State.completion_no_job (.inl h)
    · exact State.completion_no_job (.inr h)
    · refine (State.completion_busy hb).trans (if_neg ?_)
      rw [s.completes_iff]
      rintro ⟨hid, hmin, hmax⟩
      exact h.elim (· hid) fun h => h.elim (Nat.not_lt_of_le hmin) (Nat.not_lt_of_le hmax)
  case taken =>
    intro code top j' idle
    have counted : j' = j.addSample raw := by
      simp only [j', code, top, Job.addSample, Job.scaled, Job.clips, Job.fullScale, ← Bool.or_assoc]
      cases h : j.res with
      | bits12 => rw [Job.rawCode_bits12 raw h]
      | bits10 => rw [Job.rawCode_bits10 raw h]
    clear_value j'
    subst counted
    have row : exec (.sampleCompletion sample raw) s = .next (s.afterSample (j.addSample raw)) :=
      congrArg Host.Outcome.next ((State.completion_busy hb).trans (if_pos ⟨hid, (s.completes_iff j).2 ⟨hmin, hmax⟩⟩))
    rw [row]
    refine ⟨fun hw => ?stale, fun hw hd => ?stored, fun hw hd hc hu => ?suspended, fun hw hd h => ?next⟩
    case stale => exact congrArg Host.Outcome.next (State.afterSample_withdrawn hw)
    case stored =>
      intro t
      have handed : s.deliver ((j.addSample raw).validResult s.now) = t := rfl
      rw [State.afterSample_finished (j := j.addSample raw) hw hd, State.endStored, handed]
      rfl
    case suspended =>
      intro back joined
      have merged : joined = if s.queue.normal.any fun e => e.slot == j.slot then s.countOverrun j.slot else s := by
        rw [State.countOverrun_eq]
      rw [State.afterSample_suspended (j := j.addSample raw) hw hd hc hu, State.suspend_eq, merged]
      rfl
    case next => exact congrArg Host.Outcome.next (State.afterSample_next hw hd h)

/-! ## The deadline of a sample -/

/-- Settles O31: the expiry asks whether the deadline has come, and what the job hands on depends on its withdrawal. -/
theorem deadlineExpiry : Obligations.DeadlineExpiry := by
  refine fun s => ⟨fun j hb hd => ?expired, fun h => ?early⟩
  case expired =>
    intro t
    have handed : s.endFailed j = t := rfl
    refine congrArg Host.Outcome.next ((State.deadlineExpiry_busy hb).trans ?_)
    rw [if_pos (State.deadlineReached_iff.2 hd), handed]
    rfl
  case early =>
    refine congrArg Host.Outcome.next (State.deadlineExpiry_early fun j hb => Bool.eq_false_iff.2 fun hd => ?_)
    exact Nat.not_le_of_lt (h j hb) (State.deadlineReached_iff.1 hd)

/-! ## ABORT and RESTART_CONVERTER -/

/-- Settles O32: what each command ends with in each state of the engine. -/
theorem abortAndRestart : Obligations.AbortAndRestart := by
  refine fun s arg hr => ⟨fun j hb => ?busy, fun hf => ?faulted, fun hi => ?idle⟩
  case busy =>
    have working : s.engine.state ≠ .faulted := by simp [hb]
    exact ⟨State.exec_abort hr (State.abort_busy hb),
      State.exec_restartConverter hr (State.restartConverter_not_faulted working)⟩
  case faulted =>
    exact ⟨State.exec_abort hr (State.abort_no_job (.inr hf)),
      State.exec_restartConverter hr (State.restartConverter_faulted hf)⟩
  case idle =>
    have working : s.engine.state ≠ .faulted := by simp [hi]
    exact ⟨State.exec_abort hr (State.abort_no_job (.inl hi)),
      State.exec_restartConverter hr (State.restartConverter_not_faulted working)⟩

end Sys2Proof.Machine
end

section
/-! PROOF. The readout of the engine and of the fault record (R76, R196). -/

namespace Sys2Proof.Machine

open Sys2Proof.Safety

/-! ## ENGINE_JOB (R76) -/

/-- R1: the averaging code is the binary logarithm of the count. -/
theorem Averaging.two_pow_code (a : Averaging) : 2 ^ a.code.toNat = a.count := by cases a <;> rfl

section Jobs

variable (j : Job)

theorem busy_jobWord : field (jobWord (some (.busy j))) 0 2 = 1 := by rw [jobWord, field_lo]

theorem slot_jobWord : (field (jobWord (some (.busy j))) 2 5).toNat = j.slot := by
  rw [jobWord, field_up _ _ 0, field_lo, toNat_num (by omega)]

theorem cls_jobWord : (jobWord (some (.busy j))).getLsbD 7 = decide (j.cls = .urgent) := by
  rw [jobWord, getLsbD_up _ _ 5, getLsbD_up _ _ 0, PClass.code_bit, getLsbD_bit]

theorem done_jobWord : field (jobWord (some (.busy j))) 8 4 = num 4 j.done := by
  rw [jobWord, field_up _ _ 6, field_up _ _ 1, field_up _ _ 0, field_lo]

theorem avg_jobWord : field (jobWord (some (.busy j))) 12 3 = j.avg.code := by
  rw [jobWord, field_up _ _ 10, field_up _ _ 5, field_up _ _ 4, field_up _ _ 0, field_lo]

theorem withdrawn_jobWord : (jobWord (some (.busy j))).getLsbD 15 = j.withdrawn := by
  rw [jobWord, getLsbD_up _ _ 13, getLsbD_up _ _ 8, getLsbD_up _ _ 7, getLsbD_up _ _ 3, getLsbD_up _ _ 0,
    BitVec.getLsbD_ofBool]
  rfl

end Jobs

/-! ## FAULT_INFO (R76) -/

section Faults

variable (f : FaultRecord)

theorem marker_faultWord : (faultWord (some f)).getLsbD 0 = true := by rw [faultWord, getLsbD_bit]

theorem slot_faultWord : (field (faultWord (some f)) 1 5).toNat = f.slot := by
  rw [faultWord, field_up _ _ 0, field_lo, toNat_num (by omega)]

theorem input_faultWord : (field (faultWord (some f)) 6 5).toNat = f.input := by
  rw [faultWord, field_up _ _ 5, field_up _ _ 0, field_lo, toNat_num (by omega)]

/-- The samples 1 to 16 of a burst are shown as 0 to 15. -/
theorem sample_faultWord (h : 1 ≤ f.sample) (h' : f.sample ≤ 16) :
    (field (faultWord (some f)) 11 4).toNat + 1 = f.sample := by
  rw [faultWord, field_up _ _ 10, field_up _ _ 5, field_up _ _ 0, field_lo, toNat_num (by omega)]
  omega

theorem withdrawn_faultWord : (faultWord (some f)).getLsbD 15 = f.withdrawn := by
  rw [faultWord, getLsbD_up _ _ 14, getLsbD_up _ _ 9, getLsbD_up _ _ 4, getLsbD_up _ _ 0,
    BitVec.getLsbD_ofBool]
  rfl

end Faults

/-- Settles O33: each read captures before it answers, and the words of what was captured are taken apart. -/
theorem engineReadout : Obligations.EngineReadout := by
  refine fun s hr => ⟨?job, ?fault, rfl, rfl⟩
  case job =>
    intro t
    have captured : t.engine.jobReadout = some s.engine.state := rfl
    refine ⟨congrArg Host.Outcome.next (State.hostRead_answered hr 0x30 State.captureJob State.engineJobValue),
      fun h => ?idle, fun h => ?faulted, fun j h => ?busy⟩
    case idle =>
      simp only [Reg.value, State.engineJobValue, captured, h]
      exact ⟨rfl, rfl, rfl⟩
    case faulted =>
      simp only [Reg.value, State.engineJobValue, captured, h]
      exact ⟨rfl, rfl, rfl⟩
    case busy =>
      rw [h] at captured
      intro v
      have hv : v = jobWord (some (.busy j)) := congrArg jobWord captured
      simp only [hv, Reg.value, captured, hi_append_lo, avg_jobWord]
      refine ⟨busy_jobWord j, slot_jobWord j, ?_, done_jobWord j, j.avg.two_pow_code, withdrawn_jobWord j, rfl⟩
      rw [cls_jobWord, decide_eq_true_iff]
  case fault =>
    intro t
    have captured : t.engine.faultReadout = s.engine.faultRecord := rfl
    refine ⟨congrArg Host.Outcome.next (State.hostRead_answered hr 0x33 State.captureFault State.faultInfoValue),
      fun h => ?empty, fun f h => ?record⟩
    case empty =>
      simp only [Reg.value, State.faultInfoValue, captured, h]
      exact ⟨rfl, rfl, rfl⟩
    case record =>
      rw [h] at captured
      intro v
      have hv : v = faultWord (some f) := congrArg faultWord captured
      simp only [hv, Reg.value, captured, hi_append_lo]
      exact ⟨marker_faultWord f, slot_faultWord f, input_faultWord f, sample_faultWord f, withdrawn_faultWord f, rfl⟩

end Sys2Proof.Machine
end

section
/-! SUPPORT. The two things an evaluation can do, and what its parts leave of the rules' records (R104, R110 to R114). -/

namespace Sys2Proof.Safety

open Sys2Proof.Machine

/-- An evaluation of rule `n` trips it (R111), or else changes no more than a release does, and no rule's record (R110,
R113). -/
inductive Judged (n : RuleIx) (res : ResultRecord) (s : State) : State → Prop
  | tripped {t : State} (h : t = s.trip n res) : Judged n res s t
  | moved {t : State} (h : Within State.releaseBlocks s t) (hr : ∀ m, t.rule m = s.rule m) : Judged n res s t

end Sys2Proof.Safety

namespace Sys2Proof.Machine.State

open Sys2Proof.Safety

variable (s : State) (n m : RuleIx) (res : ResultRecord)

@[simp] theorem setRuleRt_rule (x : RuleRuntime) : (s.setRuleRt n x).rule m = s.rule m := rfl

theorem clearRule_rule : (s.clearRule n).rule m = s.rule m := by
  rw [clearRule, (occurIf_within ..).rule, (faultUpdate_within _).rule, (withdrawClaims_within ..).rule, setRuleRt_rule]

theorem release_rule : (s.release n).rule m = s.rule m := by
  unfold release
  split
  · exact setRuleRt_rule ..
  · exact clearRule_rule ..

theorem snapshotAndExit_rule : (s.snapshotAndExit n).rule m = s.rule m := (snapshotAndExit_within ..).rule m

theorem trip_rule : (s.trip n res).rule m = s.rule m := by
  simp only [trip, setRuleRt_rule, snapshotAndExit_rule, (logTrip_within ..).rule, (faultUpdate_within _).rule,
    (placeClaims_within ..).rule]

/-- R110, R113. -/
theorem judge_judged : Judged n res s (s.judge n res) := by
  have stays : Judged n res s s := .moved .refl fun _ => rfl
  have moved : ∀ st run, Judged n res s (s.moveRule n st run) := fun st run =>
    .moved (moveRule_within ..).mono fun m => setRuleRt_rule ..
  have qualifying : ∀ run, Judged n res s (s.countQualifying n res run) := by
    intro run
    unfold countQualifying
    split
    · exact .tripped rfl
    · exact moved ..
  have releasing : ∀ run, Judged n res s (s.countReleasing n run) := by
    intro run
    unfold countReleasing
    split
    · exact .moved (release_within ..) (s.release_rule n)
    · exact moved ..
  unfold judge
  split
  -- no evaluation; a qualifying result; back to CLEAR; a releasing result; back to TRIPPED
  iterate 3 exact stays
  iterate 2 exact qualifying _
  iterate 4 exact moved ..
  iterate 2 exact releasing _
  iterate 4 exact moved ..

theorem judge_rule : (s.judge n res).rule m = s.rule m := by
  cases s.judge_judged n res with
  | tripped h => rw [h, trip_rule]
  | moved _ hr => exact hr m

theorem keepPrevious_rule : (s.keepPrevious n res).rule m = s.rule m := by
  unfold keepPrevious
  split <;> rfl

theorem evaluate_rule (a : SlotIx) : (evaluate a res s n).rule m = s.rule m := by
  unfold evaluate
  split
  · rw [keepPrevious_rule, judge_rule]
  · rfl

end Sys2Proof.Machine.State
end

section
/-! SUPPORT. When a completion and a deadline expiry deliver, and what else they change (R66, R69). -/

namespace Sys2Proof.Safety

open Sys2Proof.Machine

/-- The blocks that the end of a job changes beside its delivery (R66, R69, R77). -/
abbrev jobEndBlocks : List Block := [.slots, .queue, .engine, .events]

/-- A row of the engine hands on nothing, or the result of the job it finds in BUSY (R66, R69). -/
inductive Handed (result : Job → Delivery) (s : State) : State → Prop
  | nothing {t : State} (h : Within jobEndBlocks s t) : Handed result s t
  | delivered {t : State} (j : Job) (hb : s.engine.state = .busy j)
      (h : Within jobEndBlocks (s.deliver (result j)) t) : Handed result s t

end Sys2Proof.Safety

namespace Sys2Proof.Machine.State

open Sys2Proof.Safety

variable (s : State)

/-- R66: only the last sample of a burst delivers, with the job's VALID result. -/
theorem completion_handed (k : Nat) (raw : Code12) :
    Handed (fun j => (j.addSample raw).validResult s.now) s (s.completion k raw) := by
  unfold completion afterSample
  repeat' split
  · exact .nothing (endStale_within ..).mono
  · next j hb _ _ _ =>
    exact .delivered j hb (((setOutcome_within ..).seq (ds := jobEndBlocks) (setEngine_within ..)).seq (grant_within _))
  · exact .nothing (suspend_within ..).mono
  · exact .nothing (startSample_within ..).mono
  all_goals exact .nothing .refl

/-- R69: a job that misses its deadline delivers its INVALID result, unless it is withdrawn. -/
theorem deadlineExpiry_handed : Handed (fun j => j.invalidResult s.now) s s.deadlineExpiry := by
  have faulted : ∀ t f, Within jobEndBlocks t ((t.enterFaulted f).occur .converterFault) := fun t f =>
    (enterFaulted_within ..).seq (occur_within ..)
  unfold deadlineExpiry endFailed
  repeat' split
  · exact .nothing ((setOutcome_within ..).seq (ds := jobEndBlocks) (faulted ..))
  · next j hb _ _ => exact .delivered j hb ((setOutcome_within ..).seq (ds := jobEndBlocks) (faulted ..))
  all_goals exact .nothing .refl

end Sys2Proof.Machine.State
end

section
/-! SUPPORT. The laws of the capture FIFO and the trip log under each operation on them (R83 to R89, R91, R93, R122 to
R125). -/

namespace Sys2Proof.Machine.State

/-! ## The cases of a push (R85 to R87) -/

variable {s : State} {e : CaptureEntry}

theorem push_below (h : s.fifo.entries.length < 64) : s.push e =
    (s.setFifo (s.fifo.store e)).occurIf (s.fifo.entries.length + 1 == s.fifo.watermark) .captureLevel := if_pos h

theorem push_keepOldest (h : 64 ≤ s.fifo.entries.length) (hp : s.fifo.policy = .keepOldest) :
    s.push e = (s.setFifo s.fifo.dropNew).occur .captureLoss :=
  (if_neg (Nat.not_lt_of_le h)).trans (by rw [hp])

theorem push_keepNewest (h : 64 ≤ s.fifo.entries.length) (hp : s.fifo.policy = .keepNewest) :
    s.push e = (s.setFifo (s.fifo.replaceHead e)).occur .captureLoss :=
  (if_neg (Nat.not_lt_of_le h)).trans (by rw [hp])

theorem push_fifo_below (h : s.fifo.entries.length < 64) : (s.push e).fifo = s.fifo.store e := by
  rw [push_below h, (occurIf_within ..).fifo, setFifo_fifo]

theorem push_fifo_keepOldest (h : 64 ≤ s.fifo.entries.length) (hp : s.fifo.policy = .keepOldest) :
    (s.push e).fifo = s.fifo.dropNew := by
  rw [push_keepOldest h hp, (occur_within ..).fifo, setFifo_fifo]

theorem push_fifo_keepNewest (h : 64 ≤ s.fifo.entries.length) (hp : s.fifo.policy = .keepNewest) :
    (s.push e).fifo = s.fifo.replaceHead e := by
  rw [push_keepNewest h hp, (occur_within ..).fifo, setFifo_fifo]

end Sys2Proof.Machine.State

namespace Sys2Proof.Safety

open Sys2Proof.Machine

/-- R84: a gap in the range of the pending count is absent or 1 to 255. -/
theorem gapField_range {lost : Nat} (h : lost ≤ 255) : ∀ g ∈ gapField lost, 1 ≤ g ∧ g ≤ 255 := by
  intro g hg
  unfold gapField at hg
  split at hg <;> cases hg
  omega

namespace FifoLaw

variable {f : CaptureFifo} {e : CaptureEntry}

theorem store (h : FifoLaw f) (hl : f.entries.length < 64) : FifoLaw (f.store e) := by
  obtain ⟨-, pending, low, high, gaps⟩ := h
  refine ⟨?size, Nat.zero_le _, low, high, ?gaps⟩
  case size =>
    simp only [CaptureFifo.store, List.length_append, List.length_singleton]
    exact hl
  case gaps => exact List.forall_mem_append.2 ⟨gaps, List.forall_mem_singleton.2 (gapField_range pending)⟩

theorem dropNew (h : FifoLaw f) : FifoLaw f.dropNew := by
  obtain ⟨size, -, low, high, gaps⟩ := h
  exact ⟨size, Nat.min_le_right .., low, high, gaps⟩

/-- R87: one entry leaves and one joins. -/
theorem replaceHead (h : FifoLaw f) (hl : 64 ≤ f.entries.length) : FifoLaw (f.replaceHead e) := by
  obtain ⟨size, -, low, high, gaps⟩ := h
  refine ⟨?size, Nat.zero_le _, low, high, ?gaps⟩
  case size =>
    simp only [CaptureFifo.replaceHead, List.length_append, List.length_tail, List.length_singleton]
    omega
  case gaps =>
    exact List.forall_mem_append.2 ⟨fun x hx => gaps x (List.mem_of_mem_tail hx),
      List.forall_mem_singleton.2 (gapField_range (Nat.min_le_right ..))⟩

/-- R89: the watermark takes a value of its range only. -/
theorem writeCtrl (h : FifoLaw f) (d : Word) : FifoLaw (f.writeCtrl d) := by
  obtain ⟨size, pending, low, high, gaps⟩ := h
  have range : 1 ≤ (f.writeCtrl d).watermark ∧ (f.writeCtrl d).watermark ≤ Config.fifoSize := by
    simp only [CaptureFifo.writeCtrl]
    split
    · assumption
    · exact ⟨low, high⟩
  exact ⟨size, pending, range.1, range.2, gaps⟩

theorem push {s : State} (h : FifoLaw s.fifo) : FifoLaw (s.push e).fifo := by
  by_cases hl : s.fifo.entries.length < 64
  · rw [State.push_fifo_below hl]
    exact h.store hl
  · have full := Nat.le_of_not_lt hl
    cases hp : s.fifo.policy with
    | keepOldest =>
      rw [State.push_fifo_keepOldest full hp]
      exact h.dropNew
    | keepNewest =>
      rw [State.push_fifo_keepNewest full hp]
      exact h.replaceHead full

/-- R91: the head leaves, or nothing does. -/
theorem capturePop {s : State} (h : FifoLaw s.fifo) : FifoLaw s.capturePop.state.fifo := by
  obtain ⟨size, pending, low, high, gaps⟩ := h
  unfold State.capturePop
  split
  · next he =>
    rw [he] at size gaps
    exact ⟨Nat.le_of_succ_le size, pending, low, high, (List.forall_mem_cons.1 gaps).2⟩
  · exact ⟨size, pending, low, high, gaps⟩

/-- R93. -/
theorem captureFlush {s : State} (h : FifoLaw s.fifo) : FifoLaw s.captureFlush.state.fifo := by
  obtain ⟨-, -, low, high, -⟩ := h
  exact ⟨Nat.zero_le _, Nat.zero_le _, low, high, nofun⟩

end FifoLaw

theorem fifoLaw_reset : FifoLaw .reset := ⟨Nat.zero_le _, Nat.zero_le _, by decide, by decide, nofun⟩

namespace TripLogLaw

variable {l : TripLog} {e : TripEntry}

/-- R122: an entry joins a log that is not full, without an overflow count. -/
theorem append (h : TripLogLaw l) (hl : l.entries.length < Config.tripLogSize) (he : e.overflow = 0) :
    TripLogLaw { l with entries := l.entries ++ [e] } := by
  obtain ⟨-, counts⟩ := h
  refine ⟨?size, fun i x hx => ?counts⟩
  case size => simpa using hl
  case counts =>
    rw [List.getElem?_append] at hx
    split at hx
    · exact counts i x hx
    · obtain rfl := List.mem_singleton.1 (List.mem_of_getElem? hx)
      exact ⟨he ▸ Nat.zero_le _, fun _ => he⟩

/-- R123: only entry 15 counts, up to 255. -/
theorem bumpOverflow (h : TripLogLaw l) : TripLogLaw { l with entries := State.bumpOverflow l.entries } := by
  obtain ⟨size, counts⟩ := h
  refine ⟨?size, fun i x hx => ?counts⟩
  case size => simpa [State.bumpOverflow] using size
  case counts =>
    rw [State.bumpOverflow, List.getElem?_modify, Option.map_eq_map, Option.map_eq_some_iff] at hx
    obtain ⟨y, hy, rfl⟩ := hx
    split
    · next hi => exact ⟨Nat.min_le_right .., fun hne => absurd hi.symm hne⟩
    · exact counts i y hy

theorem logTrip {s : State} (h : TripLogLaw s.tripLog) (he : e.overflow = 0) : TripLogLaw (s.logTrip e).tripLog := by
  unfold State.logTrip
  simp only
  split
  · next hl =>
    rw [(State.occurIf_within ..).tripLog]
    exact h.append hl he
  · rw [(State.occur_within ..).tripLog]
    exact h.bumpOverflow

/-- R124: a selection captures and leaves the entries. -/
theorem writeTriplogSel {s : State} (h : TripLogLaw s.tripLog) (d : Word) :
    TripLogLaw (State.writeTriplogSel d s).tripLog := by
  unfold State.writeTriplogSel
  split <;> exact h

end TripLogLaw

theorem tripLogLaw_nil (sel : Fin 16) (readout : Option TripEntry) : TripLogLaw ⟨[], sel, readout⟩ :=
  ⟨Nat.zero_le _, nofun⟩

end Sys2Proof.Safety
end

section
/-! PROOF. Every step keeps the laws of the capture FIFO, the trip log and the results (R78, R83, R84, R122). -/

namespace Sys2Proof.Safety

open Sys2Proof.Machine

/-! ## The capture FIFO and the trip log -/

/-- The laws of the capture FIFO and the trip log together. -/
structure LogLaws (s : State) : Prop where
  fifo : FifoLaw s.fifo
  log : TripLogLaw s.tripLog

namespace LogLaws

variable {s t : State} {bs : List Block}

theorem within (h : LogLaws s) (k : Within bs s t) (hf : .fifo ∉ bs := by decide) (hl : .tripLog ∉ bs := by decide) :
    LogLaws t := ⟨(k.fifo hf).symm ▸ h.fifo, (k.tripLog hl).symm ▸ h.log⟩

theorem both (h : LogLaws s) : FifoLaw s.fifo ∧ TripLogLaw s.tripLog := ⟨h.fifo, h.log⟩

theorem captureResult (h : LogLaws s) (n : SlotIx) : LogLaws (s.captureResult n) := by
  unfold State.captureResult
  split
  · exact ⟨h.fifo.push, (State.push_within ..).tripLog.symm ▸ h.log⟩
  · exact h

theorem logTrip (h : LogLaws s) {e : TripEntry} (he : e.overflow = 0) : LogLaws (s.logTrip e) :=
  ⟨(State.logTrip_within ..).fifo.symm ▸ h.fifo, h.log.logTrip he⟩

/-- R122, R123: of a trip's actions only the entry in the log concerns these stores. -/
theorem trip (h : LogLaws s) (n : RuleIx) (res : ResultRecord) : LogLaws (s.trip n res) := by
  have placed := ((h.within (s.setRuleRt_within n { s.ruleRt n with state := .tripped, run := 0 })).within
    (State.placeClaims_within _ n)).within (State.faultUpdate_within _)
  have logged : ∀ t, LogLaws t → LogLaws (t.logTrip (t.tripEntry n res)) := fun _ ht => ht.logTrip rfl
  exact (((logged _ placed).within (State.setRuleRt_within ..)).within (State.snapshotAndExit_within ..)).within
    (State.setRuleRt_within ..)

theorem evaluate (h : LogLaws s) (a : SlotIx) (res : ResultRecord) (n : RuleIx) :
    LogLaws (State.evaluate a res s n) := by
  have judged : LogLaws (s.judge n res) := by
    cases s.judge_judged n res with
    | tripped ht => exact ht ▸ h.trip n res
    | moved hw _ => exact h.within hw
  unfold State.evaluate
  split
  · exact judged.within (State.keepPrevious_within ..)
  · exact h

theorem deliver (h : LogLaws s) (d : Delivery) : LogLaws (s.deliver d) := by
  have captured := (h.within (s.writeResult_within d)).captureResult d.slot
  have evaluated : LogLaws (State.evaluateRules _ d.slot (d.record (s.result d.slot))) :=
    List.foldlRecOn (motive := LogLaws) _ _ captured fun _ ht n _ => ht.evaluate _ _ n
  exact evaluated.within (State.requestFollowers_within ..)

theorem completion (h : LogLaws s) (k : Nat) (raw : Code12) : LogLaws (s.completion k raw) := by
  cases s.completion_handed k raw with
  | nothing hw => exact h.within hw
  | delivered j _ hw => exact (h.deliver _).within hw

theorem deadlineExpiry (h : LogLaws s) : LogLaws s.deadlineExpiry := by
  cases s.deadlineExpiry_handed with
  | nothing hw => exact h.within hw
  | delivered j _ hw => exact (h.deliver _).within hw

end LogLaws

end Sys2Proof.Safety

namespace Sys2Proof.Machine

open Sys2Proof.Safety

theorem Command.effect_logLaws (c : Command) (arg : Byte) (s : State) (hc : c ≠ .softReset) (h : LogLaws s) :
    LogLaws (c.effect arg s).state := by
  have hw := c.effect_within arg s hc
  cases c
  case softReset => exact absurd rfl hc
  case capturePop => exact ⟨h.fifo.capturePop, hw.tripLog ▸ h.log⟩
  case captureFlush => exact ⟨h.fifo.captureFlush, h.log⟩
  case triplogClear => exact ⟨h.fifo, tripLogLaw_nil ..⟩
  all_goals exact h.within hw

theorem Reg.writeEffect_logLaws (r : Reg) (d : Word) (f : State → State) (s : State) (hf : r.writeEffect d = some f)
    (h : LogLaws s) : LogLaws (f s) := by
  have hw := Reg.writeEffect_within r d f s hf
  cases r <;> simp only [writeBlocks] at hw
  case capCtrl => cases hf; exact ⟨h.fifo.writeCtrl d, h.log⟩
  case triplogSel => cases hf; exact ⟨hw.fifo ▸ h.fifo, h.log.writeTriplogSel d⟩
  all_goals exact h.within hw

theorem kept_logLaws : Kept LogLaws where
  quiet k h := h.within k.within
  command c arg s hc := c.effect_logLaws arg s hc
  write r d f s hf := r.writeEffect_logLaws d f s hf
  captureTime s h := h.within s.captureTime_within
  captureEntry s h := h.within s.captureEntry_within
  captureJob s h := h.within s.captureJob_within
  captureFault s h := h.within s.captureFault_within
  resetAll s c b _ := ⟨fifoLaw_reset, tripLogLaw_nil ..⟩
  resetEnd s h := ⟨h.fifo, h.log⟩
  completion s k raw h := h.completion k raw
  deadlineExpiry s h := h.deadlineExpiry
  tick s k h := h.within (s.tick_within k)
  periodicExpiry s n h := h.within (s.periodicExpiry_within n)
  edge s pin l h := h.within (s.edge_within pin l)
  pointReached s c h := h.within (s.pointReached_within c)
  periodEnd s c h := h.within (s.periodEnd_within c)
  dutyEnd s c h := h.within (s.dutyEnd_within c)
  softStartExpiry s n h := h.within (s.setSwitch_within n _)
  refillExpiry s n h := h.within (s.setSwitch_within n _)
  retryExpiry s n h := h.within (s.setSwitch_within n _)
  currentLimit s n h := h.within (s.currentLimit_within n)

end Sys2Proof.Machine

namespace Sys2Proof.Safety

open Sys2Proof.Machine

/-! ## The results -/

theorem resultLaw_reset : ResultLaw .reset := ⟨Nat.zero_le _, fun _ => rfl, nofun⟩

/-- R1: a burst has at most 16 samples. -/
theorem averaging_count_le (a : Averaging) : a.count ≤ 16 := by cases a <;> decide

/-- R68: a finished burst gives a VALID record. -/
theorem resultLaw_valid (j : Job) (now : Time) (old : ResultRecord) : ResultLaw ((j.validResult now).record old) :=
  ⟨averaging_count_le j.avg, nofun, nofun⟩

/-- R69: a failed job has a sample to go, so its INVALID record holds at most 15. -/
theorem resultLaw_invalid {j : Job} (hd : j.done < j.avg.count) (now : Time) (old : ResultRecord) :
    ResultLaw ((j.invalidResult now).record old) := by
  have count := averaging_count_le j.avg
  have done : j.done ≤ 15 := by omega
  exact ⟨Nat.le_succ_of_le done, nofun, fun _ => ⟨rfl, done⟩⟩

/-- Every result record keeps its shape (R78). -/
structure ResultsLaw (s : State) : Prop where
  each : ∀ n, ResultLaw (s.result n)

namespace ResultsLaw

variable {s t : State} {bs : List Block}

theorem within (h : ResultsLaw s) (k : Within bs s t) (hb : .results ∉ bs := by decide) : ResultsLaw t :=
  ⟨fun n => (k.result n hb).symm ▸ h.each n⟩

theorem setResult (h : ResultsLaw s) (n : SlotIx) {r : ResultRecord} (hr : ResultLaw r) :
    ResultsLaw (s.setResult n r) := by
  refine ⟨fun m => ?_⟩
  rw [State.result_setResult]
  split
  · exact hr
  · exact h.each m

/-- R80: of a delivery's parts only the first writes a record. -/
theorem deliver (h : ResultsLaw s) {d : Delivery} (hd : ResultLaw (d.record (s.result d.slot))) :
    ResultsLaw (s.deliver d) :=
  (((h.setResult d.slot hd).within (State.captureResult_within ..)).within (State.evaluateRules_within ..)).within
    (State.requestFollowers_within ..)

theorem completion (h : ResultsLaw s) (k : Nat) (raw : Code12) : ResultsLaw (s.completion k raw) := by
  cases s.completion_handed k raw with
  | nothing hw => exact h.within hw
  | delivered j _ hw => exact (h.deliver (resultLaw_valid ..)).within hw

/-- R60: the law of the engine bounds what a failed job hands on. -/
theorem deadlineExpiry (h : ResultsLaw s) (hq : QueueLaw s) : ResultsLaw s.deadlineExpiry := by
  cases s.deadlineExpiry_handed with
  | nothing hw => exact h.within hw
  | delivered j hb hw =>
    obtain ⟨done, -, -⟩ := (hq.running hb).shape
    exact (h.deliver (resultLaw_invalid done ..)).within hw

/-- R18: the installation of a slot record sets the slot's result back. -/
theorem commit (h : ResultsLaw s) : ResultsLaw s.commit.state := by
  obtain ⟨_, _, hc⟩ | ⟨n, r, -, -, -, -, hc⟩ | ⟨n, r, -, -, -, -, -, hc⟩ := s.commit_cases <;> rw [hc]
  · exact h
  · have vacated : ResultsLaw (s.vacated n r) :=
      (((h.within (s.setRecord_within n r)).within (State.withdraw_within ..)).within
        (State.withdrawJob_within ..)).setResult n resultLaw_reset
    exact (vacated.within (State.restartTriggers_within ..)).within (State.stageInstalledSlot_within ..)
  · exact (h.within (State.installRule_within ..)).within (State.stageInstalledRule_within ..)

end ResultsLaw

end Sys2Proof.Safety

namespace Sys2Proof.Machine

open Sys2Proof.Safety

/-- R82: a selection leaves the records. -/
theorem State.writeResultSel_result (s : State) (d : Word) (n : SlotIx) :
    (State.writeResultSel d s).result n = s.result n := by
  unfold State.writeResultSel
  split <;> rfl

/-- R79: a reset leaves every record ABSENT. -/
theorem resultsLaw_resetAll (s : State) (c : ResetCause) (b : Bool) : ResultsLaw (s.resetAll c b) := by
  refine ⟨fun n => ?_⟩
  have absent : (s.resetAll c b).result n = .reset := by
    simp [State.resetAll, State.reset, ResultStore.reset, State.result]
  rw [absent]
  exact resultLaw_reset

theorem Command.effect_resultsLaw (c : Command) (arg : Byte) (s : State) (hc : c ≠ .softReset) (h : ResultsLaw s) :
    ResultsLaw (c.effect arg s).state := by
  have hw := c.effect_within arg s hc
  cases c
  case softReset => exact absurd rfl hc
  case commit => exact h.commit
  all_goals exact h.within hw

theorem Reg.writeEffect_resultsLaw (r : Reg) (d : Word) (f : State → State) (s : State) (hf : r.writeEffect d = some f)
    (h : ResultsLaw s) : ResultsLaw (f s) := by
  have hw := Reg.writeEffect_within r d f s hf
  cases r <;> simp only [writeBlocks] at hw
  case resultSel =>
    cases hf
    exact ⟨fun n => (s.writeResultSel_result d n).symm ▸ h.each n⟩
  all_goals exact h.within hw

/-- The results, with the law that bounds the samples of the job in the engine. -/
theorem kept_resultsLaw : Kept fun s => QueueLaw s ∧ ResultsLaw s where
  quiet k h := ⟨kept_queueLaw.quiet k h.1, h.2.within k.within⟩
  command c arg s hc h := ⟨kept_queueLaw.command c arg s hc h.1, c.effect_resultsLaw arg s hc h.2⟩
  write r d f s hf h := ⟨kept_queueLaw.write r d f s hf h.1, r.writeEffect_resultsLaw d f s hf h.2⟩
  captureTime s h := ⟨kept_queueLaw.captureTime s h.1, ⟨h.2.each⟩⟩
  captureEntry s h := ⟨kept_queueLaw.captureEntry s h.1, ⟨h.2.each⟩⟩
  captureJob s h := ⟨kept_queueLaw.captureJob s h.1, ⟨h.2.each⟩⟩
  captureFault s h := ⟨kept_queueLaw.captureFault s h.1, ⟨h.2.each⟩⟩
  resetAll s c b h := ⟨kept_queueLaw.resetAll s c b h.1, resultsLaw_resetAll s c b⟩
  resetEnd s h := ⟨kept_queueLaw.resetEnd s h.1, ⟨h.2.each⟩⟩
  completion s k raw h := ⟨kept_queueLaw.completion s k raw h.1, h.2.completion k raw⟩
  deadlineExpiry s h := ⟨kept_queueLaw.deadlineExpiry s h.1, h.2.deadlineExpiry h.1⟩
  tick s k h := ⟨kept_queueLaw.tick s k h.1, ⟨h.2.each⟩⟩
  periodicExpiry s n h := ⟨kept_queueLaw.periodicExpiry s n h.1, h.2.within (s.periodicExpiry_within n)⟩
  edge s pin l h := ⟨kept_queueLaw.edge s pin l h.1, h.2.within (s.edge_within pin l)⟩
  pointReached s c h := ⟨kept_queueLaw.pointReached s c h.1, h.2.within (s.pointReached_within c)⟩
  periodEnd s c h := ⟨kept_queueLaw.periodEnd s c h.1, h.2.within (s.periodEnd_within c)⟩
  dutyEnd s c h := ⟨kept_queueLaw.dutyEnd s c h.1, h.2.within (s.dutyEnd_within c)⟩
  softStartExpiry s n h := ⟨kept_queueLaw.softStartExpiry s n h.1, ⟨h.2.each⟩⟩
  refillExpiry s n h := ⟨kept_queueLaw.refillExpiry s n h.1, ⟨h.2.each⟩⟩
  retryExpiry s n h := ⟨kept_queueLaw.retryExpiry s n h.1, ⟨h.2.each⟩⟩
  currentLimit s n h := ⟨kept_queueLaw.currentLimit s n h.1, h.2.within (s.currentLimit_within n)⟩

/-- Settles O60: every part of a step keeps the three stores' laws. Deliveries push and log within the bounds, and only a
job of the engine, whose samples its law bounds, delivers. -/
theorem storeLawsKept : Obligations.StoreLawsKept :=
  ⟨fun _ _ hs ht => (kept_logLaws.step ⟨hs.1, hs.2⟩ ht).both,
    fun _ _ hq hr ht => (kept_resultsLaw.step ⟨hq, ⟨hr⟩⟩ ht).2.each⟩

end Sys2Proof.Machine
end

section
/-! PROOF. The four parts of a delivery as the statement puts them (R55, R78, R80, R84, R106). -/

namespace Sys2Proof.Machine

open Sys2Proof.Safety

namespace State

variable {s t : State}

/-- R80 part 1: the record that stands after it is written. -/
theorem writeResult_result (s : State) (d : Delivery) :
    (s.writeResult d).result d.slot = d.record (s.result d.slot) := by
  rw [writeResult, result_setResult, if_pos rfl]

/-- R80 part 3: as no evaluation changes a rule's record, the rules evaluated are those that have the slot as source A
before the first of them. -/
theorem evaluateRules_eq (a : SlotIx) (res : ResultRecord) (h : ∀ n, t.rule n = s.rule n) :
    t.evaluateRules a res = ((List.finRange 16).filter fun n => (s.rule n).srcA == a).foldl
      (fun u n => (u.judge n res).keepPrevious n res) t := by
  unfold evaluateRules
  generalize List.finRange 16 = l
  induction l generalizing t with
  | nil => rfl
  | cons n l ih =>
    have rest := ih fun m => (evaluate_rule t n m res a).trans (h m)
    rw [List.foldl_cons, rest, List.filter_cons, evaluate, h n]
    by_cases hn : (s.rule n).srcA = a
    · rw [if_pos hn, if_pos (beq_iff_eq.2 hn), List.foldl_cons]
    · rw [if_neg hn, if_neg (mt beq_iff_eq.1 hn)]

/-- R55. -/
theorem requestFollowers_eq (s : State) (n : SlotIx) : s.requestFollowers n =
    requestEach .follow (raisable s fun q => decide (q.trigger = .follow n)) s := by
  refine (s.raiseAll_eq ..).trans (congrArg (fun f => requestEach .follow (raisable s f) s) (funext fun q => ?_))
  cases q.trigger with
  | follow leader => simp [beq_eq_decide]
  | hostOnly => rfl
  | periodic _ _ => rfl
  | pin _ _ => rfl
  | pwm _ _ => rfl

end State

/-- Settles O34: the parts one after another. The record written is the one that is captured and judged, and the rules'
sources do not change while they are evaluated. -/
theorem deliveryParts : Obligations.DeliveryParts := by
  intro s d r written captured evaluated
  have stored : (s.writeResult d).captureResult d.slot = captured := by
    rw [State.captureResult, s.writeResult_result]
    rfl
  have sources : ∀ n, captured.rule n = s.rule n := fun n => by
    rw [← stored, (State.captureResult_within ..).rule, (s.writeResult_within d).rule]
  have judged : captured.evaluateRules d.slot r = evaluated := State.evaluateRules_eq d.slot r sources
  calc s.deliver d = (((s.writeResult d).captureResult d.slot).evaluateRules d.slot r).requestFollowers d.slot := rfl
    _ = evaluated.requestFollowers d.slot := by rw [stored, judged]
    _ = _ := evaluated.requestFollowers_eq d.slot

end Sys2Proof.Machine
end

section
/-! PROOF. A push into the capture FIFO, and the balance of its losses (R85 to R88). -/

namespace Sys2Proof.Machine

open Sys2Proof.Safety

namespace CaptureFifo

variable {f : CaptureFifo} {h : CaptureEntry} {hs : List CaptureEntry} (e : CaptureEntry)

/-- R87, where the FIFO has a head. -/
theorem replaceHead_cons (he : f.entries = h :: hs) : f.replaceHead e =
    { f with
      entries := hs ++ [{ e with gap := some (min 255 (f.pendingLoss + 1 + h.gap.getD 0)) }]
      pendingLoss := 0 } := by
  have gap : f.headGap = h.gap.getD 0 := by rw [headGap, he, List.head?_cons, Option.bind_some]
  have lost : min (f.pendingLoss + 1 + h.gap.getD 0) 255 ≠ 0 := by omega
  rw [replaceHead, gap, gapField, if_neg lost, Nat.min_comm, he, List.tail_cons]

/-- R85, R88: the pending losses become the gap of the entry stored. -/
theorem lossesHeld_store : lossesHeld (f.store e) = lossesHeld f := by
  simp only [lossesHeld, store, List.map_append, List.map_singleton, List.sum_append, List.sum_singleton, gapField_getD]
  omega

/-- R86, R88. -/
theorem lossesHeld_dropNew (hp : f.pendingLoss + 1 ≤ 255) : lossesHeld f.dropNew = lossesHeld f + 1 := by
  simp only [lossesHeld, dropNew, satInc]
  omega

/-- R87, R88: the head and its gap leave, and both are in the new gap. -/
theorem lossesHeld_replaceHead (he : f.entries = h :: hs) (hp : f.pendingLoss + 1 + h.gap.getD 0 ≤ 255) :
    lossesHeld (f.replaceHead e) = lossesHeld f + 1 := by
  rw [replaceHead_cons e he]
  simp only [lossesHeld, he, List.map_append, List.map_cons, List.map_nil, List.sum_append, List.sum_cons,
    List.sum_nil, Option.getD_some]
  omega

end CaptureFifo

/-- Settles O35: each case of a push as the change of the FIFO and the events it latches, and what that change does to
the losses. -/
theorem capturePush : Obligations.CapturePush := by
  refine ⟨fun s e => ?cases, fun s e hl => ?lossesBelow, fun s e hf hp hl => ?lossesOldest,
    fun s e h hs hf hp he hl => ?lossesNewest⟩
  case cases =>
    intro gap
    refine ⟨fun hl => ?below, fun hf hp => ?oldest, fun h hs hf hp he => ?newest⟩
    case below =>
      rw [State.push_below hl, State.occurIf]
      exact if_congr beq_iff_eq rfl rfl
    case oldest =>
      rw [State.push_keepOldest hf hp, CaptureFifo.dropNew, satInc, Nat.min_comm]
      rfl
    case newest =>
      rw [State.push_keepNewest hf hp, CaptureFifo.replaceHead_cons e he]
      rfl
  case lossesBelow => rw [State.push_fifo_below hl, CaptureFifo.lossesHeld_store]
  case lossesOldest => rw [State.push_fifo_keepOldest hf hp, CaptureFifo.lossesHeld_dropNew hl]
  case lossesNewest => rw [State.push_fifo_keepNewest hf hp, CaptureFifo.lossesHeld_replaceHead e he hl]

end Sys2Proof.Machine
end

section
/-! PROOF. The accesses of the three stores, and the words their registers show (R82, R88, R89, R91, R93, R124, R196). -/

namespace Sys2Proof.Machine

open Sys2Proof.Safety

/-! ## Words -/

@[simp] theorem ResultState.toNat_code (x : ResultState) : x.code.toNat = resultStates.idxOf x := by cases x <;> rfl

@[simp] theorem FullPolicy.toNat_code (x : FullPolicy) :
    x.code.toNat = [FullPolicy.keepOldest, .keepNewest].idxOf x := by cases x <;> rfl

theorem resultWords (s : State) : ResultWords s where
  sel := by
    simp [shows, Reg.value]
    omega
  state h := by
    rw [shows, Reg.value, ResultStore.stateWord]
    repeat rw [toNat_join]
    simp
    omega
  value := by
    simp [shows, Reg.value]
    omega
  seq := by
    simp [shows, Reg.value]
    omega
  time := hi_append_lo _

theorem captureWords (s : State) : CaptureWords s where
  ctrl h := by
    rw [shows, Reg.value, CaptureFifo.ctrlWord]
    repeat rw [toNat_join]
    simp
    omega
  status h h' := by
    rw [shows, Reg.value, CaptureFifo.statusWord]
    repeat rw [toNat_join]
    simp
    omega
  empty h := by
    simp only [Reg.value, h]
    exact ⟨rfl, rfl, rfl, rfl, rfl⟩
  entry e h := by
    simp only [Reg.value, h]
    refine ⟨?slot, ?value, hi_append_lo _, fun hg => ?noGap, fun g hg hr => ?gap⟩
    case slot =>
      rw [shows, capSlotWord]
      repeat rw [toNat_join]
      simp
    case value =>
      rw [shows, capValueWord]
      repeat rw [toNat_join]
      simp
      omega
    case noGap => simp only [capGapWord, Option.bind_some, hg]
    case gap =>
      simp only [capGapWord, Option.bind_some, hg]
      rw [shows]
      repeat rw [toNat_join]
      simp
      omega

theorem tripLogWords (s : State) : TripLogWords s where
  status h := by
    rw [shows, Reg.value, TripLog.statusWord, show Config.tripLogSize - 1 = 15 from rfl]
    repeat rw [toNat_join]
    cases s.tripLog.entries[15]? with
    | none =>
      simp
      omega
    | some e =>
      by_cases he : e.overflow = 0
      · simp [he]
        omega
      · simp [he, bne_iff_ne.2 he]
        omega
  sel := by
    simp [shows, Reg.value]
    omega
  empty h := by
    simp only [Reg.value, h]
    exact ⟨rfl, rfl, rfl, rfl, rfl, rfl⟩
  entry e h := by
    simp only [Reg.value, h]
    refine ⟨?entry, ?aVal, ?bVal, hi_append_lo _, fun hr => ?overflow⟩
    case entry =>
      rw [shows, tripWord]
      repeat rw [toNat_join]
      cases e.b with
      | none =>
        simp
        omega
      | some b =>
        simp
        omega
    case aVal =>
      simp [shows, tripAVal]
      omega
    case bVal =>
      rw [tripBVal, Option.bind_some]
      cases e.b with
      | none => rfl
      | some b =>
        simp [shows]
        omega
    case overflow =>
      simp [shows, tripOverflow]
      omega

/-! ## Accesses -/

namespace State

variable {s t : State} {arg : Byte} {r : ResultCode}

/-- The row of CAPTURE_POP, from what its effect ends with. -/
theorem exec_capturePop (hr : Ready s) (h : s.capturePop = .result t r) :
    exec (.capturePop arg) s = .next (finished t 0x20 arg r) :=
  congrArg Host.Outcome.next (hostCommand_finished (c := .capturePop) hr h)

/-- The row of RESULT_SEL, from what its effect leaves. -/
theorem exec_resultSelWrite {d : Word} (hr : Ready s) (h : writeResultSel d s = t) :
    exec (.resultSelWrite d) s = .next (answered t 0x40 d) :=
  congrArg Host.Outcome.next ((hostWrite_answered hr 0x40 d _).trans (congrArg (answered · 0x40 d) h))

/-- The row of TRIPLOG_SEL, from what its effect leaves. -/
theorem exec_triplogSelWrite {d : Word} (hr : Ready s) (h : writeTriplogSel d s = t) :
    exec (.triplogSelWrite d) s = .next (answered t 0x51 d) :=
  congrArg Host.Outcome.next ((hostWrite_answered hr 0x51 d _).trans (congrArg (answered · 0x51 d) h))

theorem capturePop_cons {e : CaptureEntry} {es : List CaptureEntry} (h : s.fifo.entries = e :: es) :
    s.capturePop = .result (s.setFifo { s.fifo with entries := es, readout := some e }) .ok := by
  rw [capturePop, h]

theorem capturePop_nil (h : s.fifo.entries = []) :
    s.capturePop = .result (s.setFifo { s.fifo with readout := none }) .empty := by
  rw [capturePop, h]

end State

/-- Settles O36: what each command and write ends with, and each word put together from its fields. -/
theorem storeAccesses : Obligations.StoreAccesses := by
  refine ⟨fun s hr => ⟨fun arg e es he => ?pop, fun arg he => ?empty, fun arg => ?flush, fun d => ?ctrl⟩,
    fun s d hr => ⟨fun n hn => ?result, fun hd => ?noResult, fun n hn => ?trip, fun hd => ?noTrip⟩,
    fun s => ⟨resultWords s, captureWords s, tripLogWords s⟩⟩
  case pop => exact State.exec_capturePop hr (State.capturePop_cons he)
  case empty => exact State.exec_capturePop hr (State.capturePop_nil he)
  case flush => exact congrArg Host.Outcome.next (State.hostCommand_finished (c := .captureFlush) hr rfl)
  case ctrl => exact congrArg Host.Outcome.next (State.hostWrite_answered hr 0x48 d (State.writeCapCtrl d))
  case result =>
    have hlt : (field d 0 8).toNat < 32 := hn ▸ n.isLt
    have index : (⟨_, hlt⟩ : SlotIx) = n := Fin.ext hn
    refine State.exec_resultSelWrite hr ((dif_pos hlt).trans ?_)
    rw [index]
  case noResult => exact State.exec_resultSelWrite hr (dif_neg (by omega))
  case trip =>
    have hlt : (field d 0 8).toNat < 16 := hn ▸ n.isLt
    have index : (⟨_, hlt⟩ : Fin 16) = n := Fin.ext hn
    refine State.exec_triplogSelWrite hr ((dif_pos hlt).trans ?_)
    rw [index, hn]
    rfl
  case noTrip => exact State.exec_triplogSelWrite hr (dif_neg (by omega))

end Sys2Proof.Machine
end

section
/-! SUPPORT. The claims of a rule placed and withdrawn, switch by switch and channel by channel, and what a trip and a
release leave of the rules (R111, R112, R114). -/

namespace Sys2Proof.Machine

open Sys2Proof.Safety

/-! ## Rows written one after another -/

/-- Rows that are each written once keep what that one write gives. -/
theorem foldl_rows {α : Type} {m : Nat} (row : State → Fin m → α) (put : State → Fin m → State)
    (g : Fin m → α → α) (hput : ∀ s a k, row (put s a) k = if k = a then g k (row s k) else row s k)
    {l : List (Fin m)} (hl : l.Nodup) (s : State) (k : Fin m) :
    row (l.foldl put s) k = if k ∈ l then g k (row s k) else row s k := by
  induction l generalizing s with
  | nil => rfl
  | cons a l ih =>
    obtain ⟨ha, hl⟩ := List.nodup_cons.1 hl
    rw [List.foldl_cons, ih hl, hput]
    by_cases hk : k = a
    · subst hk
      simp [ha]
    · simp [hk]

/-- A table is known by its rows. -/
theorem eq_tabulate {α : Type} {m : Nat} {v : Vector α m} {f : Fin m → α} (h : ∀ i : Fin m, v[i] = f i) :
    v = tabulate f := Vector.ext fun i hi => (h ⟨i, hi⟩).trans (tabulate_getElem f i hi).symm

end Sys2Proof.Machine

namespace Sys2Proof.Safety.Within

open Sys2Proof.Machine

variable {s t : State}

/-- Where only the switches and the channels change, they make the whole difference. -/
theorem eq_of_outputs (h : Within [.switches, .pwm] s t) : t = { s with switches := t.switches, pwm := t.pwm } := by
  obtain ⟨⟩ := t
  rw [State.mk.injEq]
  refine ⟨h.slots ?_, h.staging ?_, h.triggers ?_, h.queue ?_, h.engine ?_, h.results ?_, h.fifo ?_, h.watch ?_,
    h.tripLog ?_, rfl, rfl, h.events ?_, h.mode ?_, h.port ?_, h.choices ?_, h.pending ?_⟩ <;> decide

end Sys2Proof.Safety.Within

namespace Sys2Proof.Machine

open Sys2Proof.Safety

/-! ## The bit of a rule in a set -/

theorem getLsbD_ruleBit (n m : RuleIx) : (ruleBit n).getLsbD m = decide (m = n) := by
  simp [ruleBit, Fin.ext_iff, eq_comm]

/-- A rule joins a set. -/
theorem getLsbD_or_ruleBit (x : BitVec 16) (n m : RuleIx) :
    (x ||| ruleBit n).getLsbD m = (x.getLsbD m || decide (m = n)) := by
  rw [BitVec.getLsbD_or, getLsbD_ruleBit]

/-- A rule leaves a set. -/
theorem getLsbD_and_not_ruleBit (x : BitVec 16) (n m : RuleIx) :
    (x &&& ~~~ruleBit n).getLsbD m = (x.getLsbD m && !decide (m = n)) := by
  rw [BitVec.getLsbD_and, BitVec.getLsbD_not, getLsbD_ruleBit, decide_eq_true m.isLt, Bool.true_and]

theorem Switch.addHold_holds (w : Switch) (n : RuleIx) : (w.addHold n).holds = w.holds ||| ruleBit n := by
  unfold Switch.addHold
  cases w.state <;> dsimp only
  case softstart | on | ilimWait => split <;> rfl

theorem Switch.dropHold_holds (w : Switch) (n : RuleIx) : (w.dropHold n).holds = w.holds &&& ~~~ruleBit n := by
  unfold Switch.dropHold
  dsimp only
  split
  · split <;> rfl
  · rfl

/-! ## Claims placed (R111) and withdrawn (R112) -/

/-- Channel `c` once the force and the cap of rule `n` have arrived (R155, R156). -/
def WatchRecord.restrain (r : WatchRecord) (n : RuleIx) (c : ChIx) (x : Channel) : Channel :=
  let y := if r.forceMask.getLsbD c then x.addForce n else x
  match r.cap with
  | some (c', v) => if c' = c then y.addCap n v else y
  | none => y

namespace State

variable (s : State) (n : RuleIx)

theorem switch_arriveHold (mask : BitVec 4) (a k : SwIx) : (arriveHold n mask s a).switch k =
    if k = a then (if mask.getLsbD k then (s.switch k).addHold n else s.switch k) else s.switch k := by
  unfold arriveHold
  by_cases hk : k = a
  · subst hk
    split <;> simp [switch_setSwitch]
  · split <;> simp [switch_setSwitch, hk]

theorem channel_arriveForce (mask : BitVec 4) (a c : ChIx) : (arriveForce n mask s a).channel c =
    if c = a then (if mask.getLsbD c then (s.channel c).addForce n else s.channel c) else s.channel c := by
  unfold arriveForce
  by_cases hc : c = a
  · subst hc
    split <;> simp [channel_setChannel]
  · split <;> simp [channel_setChannel, hc]

theorem channel_arriveCap (cap : Option (ChIx × Word)) (c : ChIx) : (s.arriveCap n cap).channel c =
    match cap with
    | some (c', v) => if c' = c then (s.channel c).addCap n v else s.channel c
    | none => s.channel c := by
  cases cap with
  | none => rfl
  | some x =>
    obtain ⟨c', v⟩ := x
    simp only [arriveCap, channel_setChannel, eq_comm (a := c)]
    split
    · next h => rw [h]
    · rfl

/-- R139: the holds of rule `n` arrive at the switches its open mask names. -/
theorem placeClaims_switch (k : SwIx) : (s.placeClaims n).switch k =
    if (s.rule n).openMask.getLsbD k then (s.switch k).addHold n else s.switch k := by
  have forces := fun t => (Within.foldl (fun t c => arriveForce_within t n (s.rule n).forceMask c) (List.finRange 4) t)
  have holds := foldl_rows switch (arriveHold n (s.rule n).openMask)
    (fun k w => if (s.rule n).openMask.getLsbD k then w.addHold n else w)
    (fun t a k => switch_arriveHold t n _ a k) (List.nodup_finRange 4) s k
  rw [placeClaims, (arriveCap_within ..).switch k (by decide), (forces _).switch k (by decide), holds,
    if_pos (List.mem_finRange k)]

/-- R155, R156: its force and its cap arrive at the channels they name. -/
theorem placeClaims_channel (c : ChIx) :
    (s.placeClaims n).channel c = (s.rule n).restrain n c (s.channel c) := by
  have holds := Within.foldl (fun t k => arriveHold_within t n (s.rule n).openMask k) (List.finRange 4) s
  have forces := fun t => foldl_rows channel (arriveForce n (s.rule n).forceMask)
    (fun c x => if (s.rule n).forceMask.getLsbD c then x.addForce n else x)
    (fun t a c => channel_arriveForce t n _ a c) (List.nodup_finRange 4) t c
  rw [placeClaims, channel_arriveCap, forces, if_pos (List.mem_finRange c), holds.channel c (by decide)]
  rfl

/-- R111 step 1: the claims of rule `n` as one update of the switches and the channels. -/
theorem placeClaims_eq : s.placeClaims n = { s with
    switches := tabulate fun k => if (s.rule n).openMask.getLsbD k then (s.switch k).addHold n else s.switch k
    pwm := tabulate fun c => (s.rule n).restrain n c (s.channel c) } := by
  rw [(placeClaims_within s n).eq_of_outputs, eq_tabulate (s.placeClaims_switch n), eq_tabulate (s.placeClaims_channel n)]

theorem withdrawClaims_switch (k : SwIx) : (s.withdrawClaims n).switch k = (s.switch k).dropHold n := tabulate_get ..

theorem withdrawClaims_channel (c : ChIx) : (s.withdrawClaims n).channel c = (s.channel c).dropRule n := tabulate_get ..

/-! ## What a trip and a release leave of the rules -/

/-- Rule `n` has entered TRIPPED and placed its claims (R111 step 1). -/
def entered : State := (s.setRuleRt n { s.ruleRt n with state := .tripped, run := 0 }).placeClaims n

theorem entered_eq : s.entered n = { s with
    watch := { s.watch with runtime := s.watch.runtime.set n { s.ruleRt n with state := .tripped, run := 0 } }
    switches := tabulate fun k => if (s.rule n).openMask.getLsbD k then (s.switch k).addHold n else s.switch k
    pwm := tabulate fun c => (s.rule n).restrain n c (s.channel c) } := placeClaims_eq ..

theorem entered_within : Within [.watch, .switches, .pwm] s (s.entered n) :=
  (setRuleRt_within ..).seq (placeClaims_within ..) (by decide) (by decide)

theorem entered_rule (m : RuleIx) : (s.entered n).rule m = s.rule m := (placeClaims_within ..).rule m (by decide)

theorem entered_ruleRt (m : RuleIx) : (s.entered n).ruleRt m =
    if m = n then { s.ruleRt n with state := .tripped, run := 0 } else s.ruleRt m :=
  ((placeClaims_within ..).ruleRt m (by decide)).trans (ruleRt_setRuleRt ..)

/-- R111: the rule that trips, with its trip counted; the others stay. -/
theorem trip_ruleRt (res : ResultRecord) (m : RuleIx) : (s.trip n res).ruleRt m =
    if m = n then { s.ruleRt n with
      state := .tripped, run := 0, ackAhead := false, trips := satInc 255 (s.ruleRt n).trips, lastTrip := some s.now }
    else s.ruleRt m := by
  have acted := fun t m => (snapshotAndExit_within t n).ruleRt m (by decide)
  have logged := fun e m => ((logTrip_within (s.entered n).faultUpdate e).ruleRt m (by decide)).trans
    (s.entered_ruleRt n m)
  have now := fun e => ((logTrip_within (s.entered n).faultUpdate e).now (by decide)).trans
    ((s.entered_within n).now (by decide))
  unfold trip
  rw [← entered]
  simp only [ruleRt_setRuleRt, acted, logged, now, if_true]
  split <;> rfl

theorem installRule_rule (r : WatchRecord) (m : RuleIx) : (s.installRule n r).rule m = if m = n then r else s.rule m :=
  rule_setRule ..

/-- R103: the runtime that an installed record starts with. -/
theorem installRule_ruleRt (r : WatchRecord) (m : RuleIx) : (s.installRule n r).ruleRt m =
    if m = n then { RuleRuntime.reset with state := if r.pinned then .clear else .disarmed } else s.ruleRt m :=
  ruleRt_setRuleRt ..

theorem clearRule_ruleRt (m : RuleIx) : (s.clearRule n).ruleRt m =
    if m = n then { s.ruleRt n with state := .clear, run := 0, ackAhead := false } else s.ruleRt m := by
  rw [clearRule, (occurIf_within ..).ruleRt m (by decide), (faultUpdate_within _).ruleRt m (by decide),
    (withdrawClaims_within ..).ruleRt m (by decide), ruleRt_setRuleRt]

theorem disarmRule_ruleRt (m : RuleIx) : (s.disarmRule n).ruleRt m =
    if m = n then { s.ruleRt n with state := .disarmed, run := 0, ackAhead := false, previous := none }
    else s.ruleRt m := by
  unfold disarmRule
  dsimp only
  split
  · rw [(faultUpdate_within _).ruleRt m (by decide), (withdrawClaims_within ..).ruleRt m (by decide), ruleRt_setRuleRt]
  · rw [ruleRt_setRuleRt]

theorem disarmRule_rule (m : RuleIx) : (s.disarmRule n).rule m = s.rule m := by
  unfold disarmRule
  dsimp only
  split
  · rw [(faultUpdate_within _).rule m (by decide), (withdrawClaims_within ..).rule m (by decide), setRuleRt_rule]
  · rfl

end State

end Sys2Proof.Machine
end

section
/-! SUPPORT. The ways an evaluated rule can move, with the state of R109 it moves from (R104, R110, R113, R114). -/

namespace Sys2Proof.Safety

open Sys2Proof.Machine

/-- What an evaluation makes of rule `n`: a rule that is not active trips, an active one gives up its claims, and any other
move leaves the rule as active as it was, not DISARMED, and with its run count as R109 has it. -/
inductive RuleMove (n : RuleIx) (res : ResultRecord) (s : State) : State → Prop
  | stays : RuleMove n res s s
  | trips (ha : (s.ruleRt n).state.active = false) : RuleMove n res s (s.trip n res)
  | clears (ha : (s.ruleRt n).state.active = true) : RuleMove n res s (s.clearRule n)
  | moves (st : RuleState) (run : Nat) (hd : st ≠ .disarmed) (ha : st.active = (s.ruleRt n).state.active)
      (hrun : RunLaw (s.rule n) (s.ruleRt n) → RunLaw (s.rule n) { s.ruleRt n with state := st, run := run }) :
      RuleMove n res s (s.moveRule n st run)

/-- R116: ack-ahead stands on no rule in CLEAR or PENDING. -/
theorem not_ackAhead_of_runLaw {r : WatchRecord} {x : RuleRuntime} (h : RunLaw r x)
    (hx : x.state = .clear ∨ x.state = .pending) : ¬x.ackAhead = true := by
  obtain ⟨-, ack, -⟩ := h
  intro ha
  obtain ⟨-, hs⟩ := ack ha
  obtain hx | hx := hx <;> rw [hx] at hs <;> exact absurd hs (by decide)

theorem active_of_tripped_or_releasing {x : RuleState} (h : x = .tripped ∨ x = .releasing) : x.active = true :=
  RuleState.active_of_named (h.imp_right .inl)

theorem not_active_of_clear_or_pending {x : RuleState} (h : x = .clear ∨ x = .pending) : x.active = false := by
  obtain rfl | rfl := h <;> rfl

namespace RuleMove

variable {s : State} {n : RuleIx} {res : ResultRecord} {run : Nat}

/-- R110: a qualifying result in CLEAR or PENDING. -/
theorem countQualifying (hx : (s.ruleRt n).state = .clear ∨ (s.ruleRt n).state = .pending) (hrun : 1 ≤ run) :
    RuleMove n res s (s.countQualifying n res run) := by
  have idle := not_active_of_clear_or_pending hx
  unfold State.countQualifying
  split
  · exact .trips idle
  · next hc =>
    refine .moves .pending run nofun idle.symm fun law => ?_
    have noAck := not_ackAhead_of_runLaw law hx
    obtain ⟨-, -, count⟩ := law
    exact ⟨⟨hrun, Nat.lt_of_not_le hc⟩, fun ha => absurd ha noAck, count⟩

/-- R110: a rule in CLEAR or PENDING returns to CLEAR. -/
theorem toClear (hx : (s.ruleRt n).state = .clear ∨ (s.ruleRt n).state = .pending) :
    RuleMove n res s (s.moveRule n .clear 0) := by
  refine .moves .clear 0 nofun (not_active_of_clear_or_pending hx).symm fun law => ?_
  have noAck := not_ackAhead_of_runLaw law hx
  obtain ⟨-, -, count⟩ := law
  exact ⟨rfl, fun ha => absurd ha noAck, count⟩

/-- R114: a release to LATCHED needs that ack-ahead is clear. -/
theorem release (hx : (s.ruleRt n).state = .tripped ∨ (s.ruleRt n).state = .releasing) :
    RuleMove n res s (s.release n) := by
  have active := active_of_tripped_or_releasing hx
  unfold State.release
  split
  · next hl =>
    have noAck : (s.ruleRt n).ackAhead = false := by simpa using hl.2
    exact .moves .latched 0 nofun active.symm fun ⟨_, _, count⟩ =>
      ⟨rfl, fun ha => (nomatch noAck.symm.trans ha), count⟩
  · exact .clears active

/-- R113: a releasing result in TRIPPED or RELEASING. -/
theorem countReleasing (hx : (s.ruleRt n).state = .tripped ∨ (s.ruleRt n).state = .releasing) (hrun : 1 ≤ run) :
    RuleMove n res s (s.countReleasing n run) := by
  unfold State.countReleasing
  split
  · exact .release hx
  · next hc =>
    exact .moves .releasing run nofun (active_of_tripped_or_releasing hx).symm fun ⟨_, ack, count⟩ =>
      ⟨⟨hrun, Nat.lt_of_not_le hc⟩, fun ha => ⟨(ack ha).1, .inr rfl⟩, count⟩

/-- R113: a rule in TRIPPED or RELEASING returns to TRIPPED. -/
theorem toTripped (hx : (s.ruleRt n).state = .tripped ∨ (s.ruleRt n).state = .releasing) :
    RuleMove n res s (s.moveRule n .tripped 0) :=
  .moves .tripped 0 nofun (active_of_tripped_or_releasing hx).symm fun ⟨_, ack, count⟩ =>
    ⟨rfl, fun ha => ⟨(ack ha).1, .inl rfl⟩, count⟩

end RuleMove

end Sys2Proof.Safety

namespace Sys2Proof.Machine.State

open Sys2Proof.Safety

/-- R104: every evaluation is one of these moves. -/
theorem judge_ruleMove (s : State) (n : RuleIx) (res : ResultRecord) : RuleMove n res s (s.judge n res) := by
  unfold judge
  split
  -- DISARMED, LATCHED or skipped
  iterate 3 exact .stays
  · next h _ => exact .countQualifying (.inl h) le_rfl
  · next h _ => exact .countQualifying (.inr h) (Nat.le_add_left ..)
  iterate 2 next h _ => exact .toClear (.inl h)
  iterate 2 next h _ => exact .toClear (.inr h)
  · next h _ => exact .countReleasing (.inl h) le_rfl
  · next h _ => exact .countReleasing (.inr h) (Nat.le_add_left ..)
  iterate 2 next h _ => exact .toTripped (.inl h)
  iterate 2 next h _ => exact .toTripped (.inr h)

end Sys2Proof.Machine.State
end

section
/-! SUPPORT. The operations that leave every claim as it stands: they may change a switch or a channel, but no hold set,
force set or cap list, and no rule's record (R139, R148, R149, R154). -/

namespace Sys2Proof.Safety

open Sys2Proof.Machine

/-- The rules' records, the hold sets, the cap lists and the force sets are the same in both states. -/
structure ClaimsStand (s t : State) : Prop where
  rule : ∀ n, t.rule n = s.rule n
  holds : ∀ k, (t.switch k).holds = (s.switch k).holds
  caps : ∀ c, (t.channel c).caps = (s.channel c).caps
  forces : ∀ c, (t.channel c).forces = (s.channel c).forces

namespace ClaimsStand

variable {s t u : State} {bs : List Block}

theorem refl : ClaimsStand s s := ⟨fun _ => rfl, fun _ => rfl, fun _ => rfl, fun _ => rfl⟩

theorem trans (h : ClaimsStand s t) (k : ClaimsStand t u) : ClaimsStand s u :=
  ⟨fun n => (k.rule n).trans (h.rule n), fun n => (k.holds n).trans (h.holds n), fun c => (k.caps c).trans (h.caps c),
    fun c => (k.forces c).trans (h.forces c)⟩

theorem ite {c : Prop} [Decidable c] (h : ClaimsStand s t) (k : ClaimsStand s u) :
    ClaimsStand s (if c then t else u) := by
  split <;> assumption

/-- An operation that leaves the watch unit and the outputs alone. -/
theorem of_within (h : Within bs s t) (hb : ∀ b ∈ [Block.watch, .switches, .pwm], b ∉ bs) : ClaimsStand s t := by
  have channel : ∀ c, t.channel c = s.channel c := fun c => h.channel c (hb _ (by simp))
  exact ⟨fun n => h.rule n (hb _ (by simp)), fun k => congrArg _ (h.switch k (hb _ (by simp))),
    fun c => congrArg _ (channel c), fun c => congrArg _ (channel c)⟩

end ClaimsStand

end Sys2Proof.Safety

namespace Sys2Proof.Machine

open Sys2Proof.Safety

/-! ## Switches and channels -/

namespace Switch

variable (w : Switch)

theorem softStartExpiry_holds : w.softStartExpiry.holds = w.holds := by
  unfold softStartExpiry
  split <;> rfl

theorem refillExpiry_holds : w.refillExpiry.holds = w.holds := by
  unfold refillExpiry
  split <;> rfl

theorem retryExpiry_holds : w.retryExpiry.holds = w.holds := by
  unfold retryExpiry
  split <;> rfl

theorem limited_holds : w.limited.holds = w.holds := by
  unfold limited
  dsimp only
  split <;> rfl

end Switch

namespace State

variable (s : State)

theorem setRuleRt_stand (n x) : ClaimsStand s (s.setRuleRt n x) :=
  ⟨fun _ => rfl, fun _ => rfl, fun _ => rfl, fun _ => rfl⟩

/-- A switch whose hold set stays. -/
theorem setSwitch_stand (n : SwIx) (w : Switch) (hw : w.holds = (s.switch n).holds) :
    ClaimsStand s (s.setSwitch n w) where
  rule _ := rfl
  holds k := by
    rw [switch_setSwitch]
    split
    · next h => rw [hw, h]
    · rfl
  caps _ := rfl
  forces _ := rfl

/-- A channel whose restraints stay. -/
theorem setChannel_stand (c : ChIx) (x : Channel) (hc : x.caps = (s.channel c).caps)
    (hf : x.forces = (s.channel c).forces) : ClaimsStand s (s.setChannel c x) where
  rule _ := rfl
  holds _ := rfl
  caps d := by
    rw [channel_setChannel]
    split
    · next h => rw [hc, h]
    · rfl
  forces d := by
    rw [channel_setChannel]
    split
    · next h => rw [hf, h]
    · rfl

/-- All channels at once, their restraints as they were. -/
theorem channels_stand {f : ChIx → Channel} (hc : ∀ c, (f c).caps = (s.channel c).caps)
    (hf : ∀ c, (f c).forces = (s.channel c).forces) : ClaimsStand s { s with pwm := tabulate f } :=
  ⟨fun _ => rfl, fun _ => rfl, fun c => (congrArg Channel.caps (tabulate_get f c)).trans (hc c),
    fun c => (congrArg Channel.forces (tabulate_get f c)).trans (hf c)⟩

theorem stopChannels_stand : ClaimsStand s s.stopChannels :=
  channels_stand s (fun c => by split <;> rfl) (fun c => by split <;> rfl)

theorem startChannels_stand : ClaimsStand s s.startChannels :=
  channels_stand s (fun c => by split <;> rfl) (fun c => by split <;> rfl)

theorem tick_stand (k : Nat) : ClaimsStand s (s.tick k) where
  rule _ := rfl
  holds n := (congrArg Switch.holds (s.switch_tick k n)).trans rfl
  caps c := (congrArg Channel.caps (s.channel_tick k c)).trans (by unfold Channel.tick; split <;> rfl)
  forces c := (congrArg Channel.forces (s.channel_tick k c)).trans (by unfold Channel.tick; split <;> rfl)

/-! ## Rows of the channels and the switches -/

theorem pointAtStart_stand (c) : ClaimsStand s (s.pointAtStart c) := .of_within (pointAtStart_within ..) (by decide)

theorem periodEnd_stand (c) : ClaimsStand s (s.periodEnd c) :=
  .ite ((setChannel_stand s c _ (by rfl) (by rfl)).trans (pointAtStart_stand ..)) .refl

theorem dutyEnd_stand (c) : ClaimsStand s (s.dutyEnd c) := .ite (setChannel_stand s c _ (by rfl) (by rfl)) .refl

theorem pointReached_stand (c) : ClaimsStand s (s.pointReached c) :=
  .ite ((setChannel_stand s c _ (by rfl) (by rfl)).trans (.of_within (triggerPoint_within ..) (by decide))) .refl

theorem startPeriod_stand (c) : ClaimsStand s (s.startPeriod c) :=
  (setChannel_stand s c (s.channel c).start rfl rfl).trans (pointAtStart_stand ..)

theorem writePwmCtrl_stand (c d) : ClaimsStand s (writePwmCtrl c d s) := by
  have stored : ∀ cfg, ClaimsStand s (s.setChannel c { s.channel c with cfg := cfg }) := fun _ =>
    s.setChannel_stand c _ rfl rfl
  have stopped : ∀ t : State, ClaimsStand t (t.setChannel c (t.channel c).stop) := fun t =>
    t.setChannel_stand c _ rfl rfl
  unfold writePwmCtrl
  dsimp only
  split
  · exact .ite ((stored _).trans (startPeriod_stand ..)) (stored _)
  · exact (stored _).trans (stopped _)
  all_goals exact stored _

theorem writePwmConfig_stand (c r d) : ClaimsStand s (writePwmConfig c r d s) := by
  unfold writePwmConfig
  cases r with
  | period => exact .ite .refl (setChannel_stand s c _ (by rfl) (by rfl))
  | duty | trig => exact setChannel_stand s c _ (by rfl) (by rfl)

theorem currentLimit_stand (n) : ClaimsStand s (s.currentLimit n) :=
  .ite ((setSwitch_stand s n _ (Switch.limited_holds _)).trans (.trans (.of_within (occur_within ..) (by decide))
    (.trans (.of_within (occurIf_within ..) (by decide)) (.of_within (faultUpdate_within _) (by decide))))) .refl

theorem writeSwCfg_stand (n d) : ClaimsStand s (writeSwCfg n d s) :=
  (setSwitch_stand s n _ (by rfl)).trans (.of_within (faultUpdate_within _) (by decide))

/-! ## Mode changes (R178, R182) -/

theorem enterGuard_stand : ClaimsStand s s.enterGuard := by
  unfold enterGuard
  exact .trans (.of_within (setMode_within ..) (by decide)) (.trans (.of_within (withdraw_within ..) (by decide))
    (.trans (.of_within (freezeCountdowns_within _) (by decide)) ((stopChannels_stand _).trans
      (.of_within (guardAbort_within _) (by decide)))))

theorem leaveGuard_stand (c) : ClaimsStand s (s.leaveGuard c) := by
  unfold leaveGuard
  exact .trans (.of_within (setMode_within ..) (by decide)) (.trans (.of_within (occur_within ..) (by decide))
    (.trans (.of_within (thawCountdowns_within _) (by decide)) ((startChannels_stand _).trans
      (.of_within (takeAllReleased_within ..) (by decide)))))

theorem wakeExit_stand (r) : ClaimsStand s (s.wakeExit r) := by
  unfold wakeExit
  split
  · exact leaveGuard_stand ..
  · exact .refl

/-- R111: the request and the exit of a trip, in either order. -/
theorem snapshotAndExit_stand (n) : ClaimsStand s (s.snapshotAndExit n) := by
  have irq : ∀ (t : State) b, ClaimsStand t (t.occurIf b .watchTrip) := fun t b =>
    .of_within (occurIf_within ..) (by decide)
  have request : ∀ t : State, ClaimsStand t (t.snapshotRequest n) := fun t =>
    .of_within (snapshotRequest_within ..) (by decide)
  have used : ClaimsStand s s.useChoice := .of_within (useChoice_within s) (by decide)
  unfold snapshotAndExit
  exact .ite
    (.ite
      (.ite (used.trans ((request _).trans ((irq ..).trans (wakeExit_stand ..))))
        (used.trans ((irq ..).trans ((wakeExit_stand ..).trans (request _)))))
      ((irq ..).trans (wakeExit_stand ..)))
    ((request _).trans (irq ..))

end State

/-! ## Commands and writes -/

theorem withIndex_stand {bound : Nat} {arg : Byte} {s : State} {f : Fin bound → CommandEnd}
    (h : ∀ n, ClaimsStand s (f n).state) : ClaimsStand s (withIndex bound arg s f).state := by
  unfold withIndex
  split
  · exact h _
  · exact .refl

/-- Every command that leaves the watch unit alone. -/
theorem Command.effect_stand (c : Command) (arg : Byte) (s : State) (hc : c ≠ .softReset)
    (hw : .watch ∉ commandBlocks c) : ClaimsStand s (c.effect arg s).state := by
  cases c <;> simp only [Command.effect]
  case softReset => exact absurd rfl hc
  case swOn =>
    refine withIndex_stand fun n => ?_
    dsimp only
    split
    · split <;> exact s.setSwitch_stand n _ rfl
    all_goals exact .refl
  case swOff =>
    refine withIndex_stand fun n => ?_
    dsimp only
    split
    · exact .refl
    iterate 4 exact s.setSwitch_stand n _ rfl
    · split
      · exact s.setSwitch_stand n _ rfl
      · exact .refl
  case swClear =>
    refine withIndex_stand fun n => ?_
    dsimp only
    split
    · exact (s.setSwitch_stand n _ (by rfl)).trans (.of_within (State.faultUpdate_within _) (by decide))
    · exact .refl
  case guardEnter =>
    unfold State.guardEnter
    repeat' split
    iterate 3 exact .refl
    exact s.enterGuard_stand
  case guardExit =>
    unfold State.guardExit
    split
    · exact s.leaveGuard_stand _
    · exact .refl
  case commit | arm | disarm | ack => exact absurd hw (by decide)
  all_goals exact .of_within (Command.effect_within _ arg s hc) (by decide)

/-- Every register write. -/
theorem Reg.writeEffect_stand (r : Reg) (d : Word) (f : State → State) (s : State) (hf : r.writeEffect d = some f) :
    ClaimsStand s (f s) := by
  have hw := Reg.writeEffect_within r d f s hf
  cases r <;> simp only [writeBlocks] at hw
  case swCfg n => cases hf; exact s.writeSwCfg_stand n d
  case swTrips n => cases hf; exact s.setSwitch_stand n _ rfl
  case pwmCtrl c => cases hf; exact s.writePwmCtrl_stand c d
  case pwmConfig c r => cases hf; exact s.writePwmConfig_stand c r d
  all_goals exact .of_within hw (by decide)

end Sys2Proof.Machine
end

section
/-! SUPPORT. The law of the rules and their claims, rule by rule, and what keeps it when one rule changes (R109, R112). -/

namespace Sys2Proof.Safety

open Sys2Proof.Machine

/-! ## The claims of one rule -/

/-- R112: rule `n` has its claims where its record places them if it is `active`, and none anywhere if it is not. -/
structure ClaimsOf (s : State) (n : RuleIx) (active : Bool) : Prop where
  hold : ∀ k, (s.switch k).holds.getLsbD n = (active && (s.rule n).openMask.getLsbD k)
  force : ∀ c, (s.channel c).forces.getLsbD n = (active && (s.rule n).forceMask.getLsbD c)
  cap : ∀ c v, (n, v) ∈ (s.channel c).caps ↔ active = true ∧ (s.rule n).cap = some (c, v)

/-- Rule `n` has the same record and the same claims in both states. -/
structure SameClaims (n : RuleIx) (s t : State) : Prop where
  rule : t.rule n = s.rule n
  hold : ∀ k, (t.switch k).holds.getLsbD n = (s.switch k).holds.getLsbD n
  force : ∀ c, (t.channel c).forces.getLsbD n = (s.channel c).forces.getLsbD n
  cap : ∀ c v, (n, v) ∈ (t.channel c).caps ↔ (n, v) ∈ (s.channel c).caps

/-- No channel has two caps of one rule (R149). -/
def OneCapEach (s : State) : Prop := ∀ c, ((s.channel c).caps.map Prod.fst).Nodup

variable {s t u : State} {n m : RuleIx} {a : Bool}

theorem SameClaims.trans (h : SameClaims n s t) (k : SameClaims n t u) : SameClaims n s u :=
  ⟨k.rule.trans h.rule, fun i => (k.hold i).trans (h.hold i), fun c => (k.force c).trans (h.force c),
    fun c v => (k.cap c v).trans (h.cap c v)⟩

theorem ClaimsOf.same (h : ClaimsOf s n a) (k : SameClaims n s t) : ClaimsOf t n a :=
  ⟨fun i => by rw [k.hold, k.rule, h.hold], fun c => by rw [k.force, k.rule, h.force],
    fun c v => by rw [k.cap, k.rule, h.cap]⟩

theorem ClaimsStand.same (h : ClaimsStand s t) (n : RuleIx) : SameClaims n s t :=
  ⟨h.rule n, fun k => by rw [h.holds], fun c => by rw [h.forces], fun c v => by rw [h.caps]⟩

theorem ClaimsStand.oneCapEach (h : ClaimsStand s t) (hs : OneCapEach s) : OneCapEach t := fun c => by
  rw [h.caps]
  exact hs c

/-! ## Claims placed and withdrawn -/

theorem restrain_forces (r : WatchRecord) (n : RuleIx) (c : ChIx) (x : Channel) :
    (r.restrain n c x).forces = if r.forceMask.getLsbD c then x.forces ||| ruleBit n else x.forces := by
  unfold WatchRecord.restrain
  dsimp only
  split
  · split <;> split <;> rfl
  · split <;> rfl

theorem addForce_caps (r : WatchRecord) (n : RuleIx) (c : ChIx) (x : Channel) :
    (if r.forceMask.getLsbD c then x.addForce n else x).caps = x.caps := by split <;> rfl

/-- R155: the cap of a rule that names the channel joins its list. -/
theorem restrain_caps_named {r : WatchRecord} {c : ChIx} {v : Word} (h : r.cap = some (c, v)) (n : RuleIx)
    (x : Channel) : (r.restrain n c x).caps = x.caps ++ [(n, v)] := by
  simp only [WatchRecord.restrain, h, if_true]
  exact congrArg (· ++ [(n, v)]) (addForce_caps r n c x)

theorem restrain_caps_other {r : WatchRecord} {c : ChIx} (h : ∀ v, r.cap ≠ some (c, v)) (n : RuleIx) (x : Channel) :
    (r.restrain n c x).caps = x.caps := by
  unfold WatchRecord.restrain
  cases hr : r.cap with
  | none => exact addForce_caps r n c x
  | some y =>
    obtain ⟨c', v⟩ := y
    have hc : c' ≠ c := fun he => h v (he ▸ hr)
    simp only [if_neg hc]
    exact addForce_caps r n c x

theorem mem_restrain_caps (r : WatchRecord) (n m : RuleIx) (c : ChIx) (x : Channel) (v : Word) :
    (m, v) ∈ (r.restrain n c x).caps ↔ (m, v) ∈ x.caps ∨ (m = n ∧ r.cap = some (c, v)) := by
  by_cases h : ∃ w, r.cap = some (c, w)
  · obtain ⟨w, h⟩ := h
    rw [restrain_caps_named h, h]
    simp [eq_comm]
  · rw [not_exists] at h
    rw [restrain_caps_other h]
    simp [h v]

/-- R111: the rule that had no claims has all of them. -/
theorem claimsOf_placeClaims (h : ClaimsOf s n false) : ClaimsOf (s.placeClaims n) n true where
  hold k := by
    have none := h.hold k
    rw [State.placeClaims_switch, (State.placeClaims_within ..).rule n (by decide)]
    split
    · next hk => rw [Switch.addHold_holds, getLsbD_or_ruleBit, hk]; simp
    · next hk => rw [none]; simpa using hk
  force c := by
    have none := h.force c
    rw [State.placeClaims_channel, (State.placeClaims_within ..).rule n (by decide), restrain_forces]
    split
    · next hc => rw [getLsbD_or_ruleBit, hc]; simp
    · next hc => rw [none]; simpa using hc
  cap c v := by
    rw [State.placeClaims_channel, (State.placeClaims_within ..).rule n (by decide), mem_restrain_caps, h.cap]
    simp

theorem sameClaims_placeClaims (s : State) (hm : m ≠ n) : SameClaims m s (s.placeClaims n) where
  rule := (State.placeClaims_within ..).rule m (by decide)
  hold k := by
    rw [State.placeClaims_switch]
    split
    · rw [Switch.addHold_holds, getLsbD_or_ruleBit, decide_eq_false hm, Bool.or_false]
    · rfl
  force c := by
    rw [State.placeClaims_channel, restrain_forces]
    split
    · rw [getLsbD_or_ruleBit, decide_eq_false hm, Bool.or_false]
    · rfl
  cap c v := by
    rw [State.placeClaims_channel, mem_restrain_caps]
    simp [hm]

/-- R149: the cap that arrives is the rule's only one. -/
theorem oneCapEach_placeClaims (hs : OneCapEach s) (h : ClaimsOf s n false) : OneCapEach (s.placeClaims n) := by
  intro c
  have fresh : n ∉ (s.channel c).caps.map Prod.fst := by
    intro hn
    obtain ⟨⟨_, v⟩, hv, rfl⟩ := List.mem_map.1 hn
    obtain ⟨hf, -⟩ := (h.cap c v).1 hv
    cases hf
  rw [State.placeClaims_channel]
  by_cases hcap : ∃ v, (s.rule n).cap = some (c, v)
  · obtain ⟨v, hcap⟩ := hcap
    rw [restrain_caps_named hcap, List.map_append, List.map_singleton]
    exact List.nodup_append.2 ⟨hs c, List.nodup_singleton _, fun a ha b hb he => by
      obtain rfl := List.mem_singleton.1 hb
      exact fresh (he ▸ ha)⟩
  · rw [restrain_caps_other (not_exists.1 hcap)]
    exact hs c

theorem mem_dropRule_caps (x : Channel) (n m : RuleIx) (v : Word) :
    (m, v) ∈ (x.dropRule n).caps ↔ (m, v) ∈ x.caps ∧ m ≠ n := by
  simp [Channel.dropRule]

/-- R112: the rule that gives up its claims has none. -/
theorem claimsOf_withdrawClaims (s : State) (n : RuleIx) : ClaimsOf (s.withdrawClaims n) n false where
  hold k := by
    rw [State.withdrawClaims_switch, Switch.dropHold_holds, getLsbD_and_not_ruleBit]
    simp
  force c := by
    rw [State.withdrawClaims_channel]
    exact (getLsbD_and_not_ruleBit ..).trans (by simp)
  cap c v := by
    rw [State.withdrawClaims_channel, mem_dropRule_caps]
    simp

theorem sameClaims_withdrawClaims (s : State) (hm : m ≠ n) : SameClaims m s (s.withdrawClaims n) where
  rule := rfl
  hold k := by
    rw [State.withdrawClaims_switch, Switch.dropHold_holds, getLsbD_and_not_ruleBit, decide_eq_false hm, Bool.not_false,
      Bool.and_true]
  force c := by
    rw [State.withdrawClaims_channel]
    exact (getLsbD_and_not_ruleBit ..).trans (by simp [hm])
  cap c v := by
    rw [State.withdrawClaims_channel, mem_dropRule_caps]
    exact and_iff_left hm

theorem oneCapEach_withdrawClaims (hs : OneCapEach s) (n : RuleIx) : OneCapEach (s.withdrawClaims n) := fun c => by
  rw [State.withdrawClaims_channel]
  exact (hs c).sublist (List.filter_sublist.map _)

/-! ## The law rule by rule -/

/-- The law of the rules: run counts, claims, and one cap a rule. -/
structure RulesLaw (s : State) : Prop where
  run : ∀ n, RunLaw (s.rule n) (s.ruleRt n)
  claims : ∀ n, ClaimsOf s n (s.ruleRt n).state.active
  caps : OneCapEach s

theorem ruleLaw_iff : RuleLaw s ↔ RulesLaw s := by
  constructor
  · rintro ⟨run, hold, force, cap⟩
    exact ⟨run, fun n => ⟨hold n, force n, fun c => (cap c).2 n⟩, fun c => (cap c).1⟩
  · rintro ⟨run, claims, caps⟩
    exact ⟨run, fun n => (claims n).hold, fun n => (claims n).force, fun c => ⟨caps c, fun n => (claims n).cap c⟩⟩

namespace RulesLaw

variable {bs : List Block}

/-- An operation that leaves the watch unit and every claim. -/
theorem stand (h : RulesLaw s) (k : ClaimsStand s t) (w : Within bs s t) (hb : .watch ∉ bs) : RulesLaw t where
  run n := by
    rw [w.rule n hb, w.ruleRt n hb]
    exact h.run n
  claims n := by
    rw [w.ruleRt n hb]
    exact (h.claims n).same (k.same n)
  caps := k.oneCapEach h.caps

/-- An operation that leaves the watch unit and the outputs alone. -/
theorem within (h : RulesLaw s) (w : Within bs s t) (hb : ∀ b ∈ [Block.watch, .switches, .pwm], b ∉ bs) :
    RulesLaw t := h.stand (.of_within w hb) w (hb _ (by simp))

/-- Where one rule changes, the law needs to be shown anew for that rule alone. -/
theorem change (h : RulesLaw s) (n : RuleIx) (rt : ∀ m, m ≠ n → t.ruleRt m = s.ruleRt m)
    (others : ∀ m, m ≠ n → SameClaims m s t) (run : RunLaw (t.rule n) (t.ruleRt n))
    (claims : ClaimsOf t n (t.ruleRt n).state.active) (caps : OneCapEach t) : RulesLaw t where
  run m := by
    by_cases hm : m = n
    · exact hm ▸ run
    · rw [rt m hm, (others m hm).rule]
      exact h.run m
  claims m := by
    by_cases hm : m = n
    · exact hm ▸ claims
    · rw [rt m hm]
      exact (h.claims m).same (others m hm)
  caps := caps

/-- A rule whose runtime changes, but not whether it is active. -/
theorem setRuleRt (h : RulesLaw s) (n : RuleIx) {x : RuleRuntime} (hx : RunLaw (s.rule n) x)
    (ha : x.state.active = (s.ruleRt n).state.active) : RulesLaw (s.setRuleRt n x) := by
  have own : (s.setRuleRt n x).ruleRt n = x := (State.ruleRt_setRuleRt ..).trans (if_pos rfl)
  have stand := s.setRuleRt_stand n x
  refine h.change n (fun m hm => (State.ruleRt_setRuleRt ..).trans (if_neg hm)) (fun m _ => stand.same m) ?_ ?_
    (stand.oneCapEach h.caps)
  · rw [own]
    exact hx
  · rw [own, ha]
    exact (h.claims n).same (stand.same n)

/-- R111: a trip of a rule that is not active. -/
theorem trip (h : RulesLaw s) (n : RuleIx) (res : ResultRecord) (ha : (s.ruleRt n).state.active = false) :
    RulesLaw (s.trip n res) := by
  have own := (s.trip_ruleRt n res n).trans (if_pos rfl)
  have marked := s.setRuleRt_stand n { s.ruleRt n with state := .tripped, run := 0 }
  have unclaimed : ClaimsOf (s.setRuleRt n { s.ruleRt n with state := .tripped, run := 0 }) n false :=
    (ha ▸ h.claims n).same (marked.same n)
  have rest : ClaimsStand (s.entered n) (s.trip n res) :=
    .trans (.of_within (State.faultUpdate_within _) (by decide)) (.trans
      (.of_within (State.logTrip_within ..) (by decide))
      ((State.setRuleRt_stand ..).trans ((State.snapshotAndExit_stand ..).trans (State.setRuleRt_stand ..))))
  refine h.change n (fun m hm => (s.trip_ruleRt n res m).trans (if_neg hm)) (fun m hm => ?others) ?run ?claims
    (rest.oneCapEach (oneCapEach_placeClaims (marked.oneCapEach h.caps) unclaimed))
  case others => exact ((marked.same m).trans (sameClaims_placeClaims _ hm)).trans (rest.same m)
  case run =>
    rw [own]
    exact ⟨rfl, nofun, min_le_right _ _⟩
  case claims =>
    rw [own]
    exact (claimsOf_placeClaims unclaimed).same (rest.same n)

/-- Rule `n` has left its active state with its claims, and is no longer active. -/
theorem withdrawn (h : RulesLaw s) (n : RuleIx) {x : RuleRuntime} (hx : RunLaw (s.rule n) x)
    (ha : x.state.active = false) : RulesLaw ((s.setRuleRt n x).withdrawClaims n) := by
  have own : ((s.setRuleRt n x).withdrawClaims n).ruleRt n = x := (State.ruleRt_setRuleRt ..).trans (if_pos rfl)
  have stand := s.setRuleRt_stand n x
  refine h.change n (fun m hm => (State.ruleRt_setRuleRt ..).trans (if_neg hm))
    (fun m hm => (stand.same m).trans (sameClaims_withdrawClaims _ hm)) ?_ ?_
    (oneCapEach_withdrawClaims (stand.oneCapEach h.caps) n)
  · rw [own]
    exact hx
  · rw [own, ha]
    exact claimsOf_withdrawClaims _ n

/-- R114, R116: a rule becomes CLEAR. -/
theorem clearRule (h : RulesLaw s) (n : RuleIx) : RulesLaw (s.clearRule n) := by
  obtain ⟨-, -, count⟩ := h.run n
  exact ((h.withdrawn n (x := { s.ruleRt n with state := .clear, run := 0, ackAhead := false }) ⟨rfl, nofun, count⟩
    rfl).within (State.faultUpdate_within _) (by decide)).within (State.occurIf_within ..) (by decide)

/-- R118: a rule becomes DISARMED. -/
theorem disarmRule (h : RulesLaw s) (n : RuleIx) : RulesLaw (s.disarmRule n) := by
  obtain ⟨-, -, count⟩ := h.run n
  have idle : RunLaw (s.rule n) { s.ruleRt n with state := .disarmed, run := 0, ackAhead := false, previous := none } :=
    ⟨rfl, nofun, count⟩
  unfold State.disarmRule
  dsimp only
  split
  · exact (h.withdrawn n idle rfl).within (State.faultUpdate_within _) (by decide)
  · next ha => exact h.setRuleRt n idle (Bool.eq_false_iff.2 ha).symm

/-- R103: a record installed for a rule that is not active. -/
theorem installRule (h : RulesLaw s) (n : RuleIx) (r : WatchRecord) (ha : (s.ruleRt n).state.active = false) :
    RulesLaw (s.installRule n r) := by
  have rule : (s.installRule n r).rule n = r := (s.installRule_rule n r n).trans (if_pos rfl)
  have rt := (s.installRule_ruleRt n r n).trans (if_pos rfl)
  have inactive : (if r.pinned then RuleState.clear else .disarmed).active = false := by split <;> rfl
  obtain ⟨hold, force, cap⟩ : ClaimsOf s n false := ha ▸ h.claims n
  refine h.change n (fun m hm => (s.installRule_ruleRt n r m).trans (if_neg hm)) (fun m hm =>
    ⟨(s.installRule_rule n r m).trans (if_neg hm), fun _ => rfl, fun _ => rfl, fun _ _ => Iff.rfl⟩) ?_ ?_ h.caps
  · rw [rule, rt]
    cases r.pinned <;> exact ⟨rfl, nofun, Nat.zero_le _⟩
  · rw [rt, inactive]
    exact ⟨hold, force, fun c v => (cap c v).trans (by simp)⟩

end RulesLaw

end Sys2Proof.Safety
end

section
/-! PROOF. Every step keeps the law of the rules and their claims (R98, R109, R112, R149). -/

namespace Sys2Proof.Safety.RulesLaw

open Sys2Proof.Machine

variable {s t : State}

/-! ## Deliveries -/

theorem ruleMove {n : RuleIx} {res : ResultRecord} (h : RulesLaw s) (k : RuleMove n res s t) : RulesLaw t := by
  cases k with
  | stays => exact h
  | trips ha => exact h.trip n res ha
  | clears _ => exact h.clearRule n
  | moves _ _ _ ha hrun => exact h.setRuleRt n (hrun (h.run n)) ha

/-- R106: the previous value is not part of the law. -/
theorem keepPrevious (h : RulesLaw s) (n : RuleIx) (res : ResultRecord) : RulesLaw (s.keepPrevious n res) := by
  unfold State.keepPrevious
  split
  · exact h.setRuleRt n (h.run n) rfl
  · exact h

theorem evaluate (h : RulesLaw s) (a : SlotIx) (res : ResultRecord) (n : RuleIx) :
    RulesLaw (State.evaluate a res s n) := by
  unfold State.evaluate
  split
  · exact (h.ruleMove (s.judge_ruleMove n res)).keepPrevious n res
  · exact h

theorem deliver (h : RulesLaw s) (d : Delivery) : RulesLaw (s.deliver d) := by
  have captured := (h.within (s.writeResult_within d) (by decide)).within (State.captureResult_within _ d.slot)
    (by decide)
  have evaluated : RulesLaw (State.evaluateRules _ d.slot (d.record (s.result d.slot))) :=
    List.foldlRecOn (motive := RulesLaw) _ _ captured fun _ ht n _ => ht.evaluate _ _ n
  exact evaluated.within (State.requestFollowers_within ..) (by decide)

theorem completion (h : RulesLaw s) (k : Nat) (raw : Code12) : RulesLaw (s.completion k raw) := by
  cases s.completion_handed k raw with
  | nothing hw => exact h.within hw (by decide)
  | delivered j _ hw => exact (h.deliver _).within hw (by decide)

theorem deadlineExpiry (h : RulesLaw s) : RulesLaw s.deadlineExpiry := by
  cases s.deadlineExpiry_handed with
  | nothing hw => exact h.within hw (by decide)
  | delivered j _ hw => exact (h.deliver _).within hw (by decide)

/-! ## Commands and resets -/

theorem withIndex (h : RulesLaw s) {bound : Nat} {arg : Byte} {f : Fin bound → CommandEnd}
    (hf : ∀ n, RulesLaw (f n).state) : RulesLaw (withIndex bound arg s f).state := by
  unfold Machine.withIndex
  split
  · exact hf _
  · exact h

/-- R116: ack-ahead is set on a latching rule in TRIPPED or RELEASING. -/
theorem ack (h : RulesLaw s) (arg : Byte) : RulesLaw (State.ack arg s).state := by
  refine h.withIndex fun n => ?_
  obtain ⟨run, -, count⟩ := h.run n
  split
  · exact h
  · next hl =>
    have latching : (s.rule n).latching = true := by simpa using hl
    split
    · exact h.clearRule n
    · next hx => exact h.setRuleRt n ⟨run, fun _ => ⟨latching, .inl hx⟩, count⟩ rfl
    · next hx => exact h.setRuleRt n ⟨run, fun _ => ⟨latching, .inr hx⟩, count⟩ rfl
    all_goals exact h

/-- R117. -/
theorem arm (h : RulesLaw s) (arg : Byte) : RulesLaw (State.arm arg s).state := by
  refine h.withIndex fun n => ?_
  obtain ⟨-, -, count⟩ := h.run n
  split
  · next hx => exact h.setRuleRt n ⟨rfl, nofun, count⟩ (congrArg RuleState.active hx).symm
  all_goals exact h

/-- R118. -/
theorem disarm (h : RulesLaw s) (arg : Byte) : RulesLaw (State.disarm arg s).state := by
  refine h.withIndex fun n => ?_
  split
  · exact h
  · split
    · exact h
    all_goals exact h.disarmRule n

/-- R102, R103: only a rule that is not active is replaced. -/
theorem commit (h : RulesLaw s) : RulesLaw s.commit.state := by
  obtain ⟨_, _, hc⟩ | ⟨n, r, -, -, -, -, hc⟩ | ⟨n, r, -, ha, -, -, -, hc⟩ := s.commit_cases <;> rw [hc]
  · exact h
  · exact (h.within (s.installSlot_within n r) (by decide)).within (State.stageInstalledSlot_within ..) (by decide)
  · exact (h.installRule n r ha).within (State.stageInstalledRule_within ..) (by decide)

/-- R97, R98, R129, R150: after a reset no rule is armed and no claim stands. -/
theorem resetAll (s : State) (c : ResetCause) (b : Bool) : RulesLaw (s.resetAll c b) := by
  have rt : ∀ n, (s.resetAll c b).ruleRt n = .reset := by simp [State.resetAll, State.reset, State.ruleRt]
  have holds : ∀ k, ((s.resetAll c b).switch k).holds = 0 := by
    simp [State.resetAll, State.reset, State.switch, Switch.reset]
  have channel : ∀ d, (s.resetAll c b).channel d = .reset := by simp [State.resetAll, State.reset, State.channel]
  refine ⟨fun n => ?_, fun n => ⟨fun k => ?_, fun d => ?_, fun d v => ?_⟩, fun d => ?_⟩
  · rw [rt]
    exact ⟨rfl, nofun, Nat.zero_le _⟩
  · rw [holds, rt]
    exact BitVec.getLsbD_zero
  · rw [channel, rt]
    exact BitVec.getLsbD_zero
  · rw [channel, rt]
    exact ⟨nofun, nofun⟩
  · rw [channel]
    exact .nil

end Sys2Proof.Safety.RulesLaw

namespace Sys2Proof.Machine

open Sys2Proof.Safety

theorem Command.effect_rulesLaw (c : Command) (arg : Byte) (s : State) (hc : c ≠ .softReset) (h : RulesLaw s) :
    RulesLaw (c.effect arg s).state := by
  by_cases hw : Block.watch ∈ commandBlocks c
  · cases c
    case softReset => exact absurd rfl hc
    case commit => exact h.commit
    case arm => exact h.arm arg
    case disarm => exact h.disarm arg
    case ack => exact h.ack arg
    all_goals exact absurd hw (by decide)
  · exact h.stand (c.effect_stand arg s hc hw) (c.effect_within arg s hc) hw

theorem Reg.writeEffect_rulesLaw (r : Reg) (d : Word) (f : State → State) (s : State) (hf : r.writeEffect d = some f)
    (h : RulesLaw s) : RulesLaw (f s) := by
  refine h.stand (r.writeEffect_stand d f s hf) (r.writeEffect_within d f s hf) ?_
  cases r <;> simp [writeBlocks]

theorem kept_rulesLaw : Kept RulesLaw where
  quiet k h := h.within k.within (by decide)
  command c arg s hc := c.effect_rulesLaw arg s hc
  write r d f s hf := r.writeEffect_rulesLaw d f s hf
  captureTime s h := h.within s.captureTime_within (by decide)
  captureEntry s h := h.within s.captureEntry_within (by decide)
  captureJob s h := h.within s.captureJob_within (by decide)
  captureFault s h := h.within s.captureFault_within (by decide)
  resetAll s c b _ := .resetAll s c b
  resetEnd s h := h.within (s.setTriggers_within _) (by decide)
  completion s k raw h := h.completion k raw
  deadlineExpiry s h := h.deadlineExpiry
  tick s k h := h.stand (s.tick_stand k) (s.tick_within k) (by decide)
  periodicExpiry s n h := h.within (s.periodicExpiry_within n) (by decide)
  edge s pin l h := h.within (s.edge_within pin l) (by decide)
  pointReached s c h := h.stand (s.pointReached_stand c) (s.pointReached_within c) (by decide)
  periodEnd s c h := h.stand (s.periodEnd_stand c) (s.periodEnd_within c) (by decide)
  dutyEnd s c h := h.stand (s.dutyEnd_stand c) (s.dutyEnd_within c) (by decide)
  softStartExpiry s n h :=
    h.stand (s.setSwitch_stand n _ (Switch.softStartExpiry_holds _)) (s.setSwitch_within n _) (by decide)
  refillExpiry s n h :=
    h.stand (s.setSwitch_stand n _ (Switch.refillExpiry_holds _)) (s.setSwitch_within n _) (by decide)
  retryExpiry s n h :=
    h.stand (s.setSwitch_stand n _ (Switch.retryExpiry_holds _)) (s.setSwitch_within n _) (by decide)
  currentLimit s n h := h.stand (s.currentLimit_stand n) (s.currentLimit_within n) (by decide)

/-- Settles O55: every part of a step keeps the law, taken rule by rule. A rule places its claims as it becomes active and
gives them up as it ceases to be; every other part leaves rules and claims as they stand. -/
theorem ruleLawKept : Obligations.RuleLawKept :=
  fun _ _ hs ht => ruleLaw_iff.2 (kept_rulesLaw.step (ruleLaw_iff.1 hs) ht)

end Sys2Proof.Machine
end

section
/-! PROOF. Every step keeps the law of pinned rules (R120). -/

namespace Sys2Proof.Safety

open Sys2Proof.Machine

/-- The rules' records stay, and no rule becomes DISARMED. -/
structure StaysArmed (s t : State) : Prop where
  rule : ∀ n, t.rule n = s.rule n
  armed : ∀ n, (s.ruleRt n).state ≠ .disarmed → (t.ruleRt n).state ≠ .disarmed

namespace StaysArmed

variable {s t u : State} {n : RuleIx} {res : ResultRecord} {bs : List Block}

theorem refl : StaysArmed s s := ⟨fun _ => rfl, fun _ h => h⟩

theorem trans (h : StaysArmed s t) (k : StaysArmed t u) : StaysArmed s u :=
  ⟨fun n => (k.rule n).trans (h.rule n), fun n hn => k.armed n (h.armed n hn)⟩

theorem of_within (h : Within bs s t) (hb : .watch ∉ bs) : StaysArmed s t :=
  ⟨fun n => h.rule n hb, fun n hn => h.ruleRt n hb ▸ hn⟩

/-- Only rule `n` changes, and to a state other than DISARMED. -/
theorem of_row {x : RuleRuntime} (hr : ∀ m, t.rule m = s.rule m) (ht : ∀ m, t.ruleRt m = if m = n then x else s.ruleRt m)
    (hx : (s.ruleRt n).state ≠ .disarmed → x.state ≠ .disarmed) : StaysArmed s t where
  rule := hr
  armed m hm := by
    rw [ht]
    split
    · next h => exact hx (h ▸ hm)
    · exact hm

theorem setRuleRt {x : RuleRuntime} (hx : (s.ruleRt n).state ≠ .disarmed → x.state ≠ .disarmed) :
    StaysArmed s (s.setRuleRt n x) := of_row (fun _ => rfl) (s.ruleRt_setRuleRt n · x) hx

theorem clearRule (s : State) (n : RuleIx) : StaysArmed s (s.clearRule n) :=
  of_row (s.clearRule_rule n) (s.clearRule_ruleRt n) nofun

theorem ruleMove (k : RuleMove n res s t) : StaysArmed s t := by
  cases k with
  | stays => exact refl
  | trips _ => exact of_row (s.trip_rule n · res) (s.trip_ruleRt n res) nofun
  | clears _ => exact clearRule s n
  | moves _ _ hd _ _ => exact setRuleRt fun _ => hd

theorem keepPrevious (s : State) (n : RuleIx) (res : ResultRecord) : StaysArmed s (s.keepPrevious n res) := by
  unfold State.keepPrevious
  split
  · exact setRuleRt id
  · exact refl

theorem evaluate (s : State) (a : SlotIx) (res : ResultRecord) (n : RuleIx) :
    StaysArmed s (State.evaluate a res s n) := by
  unfold State.evaluate
  split
  · exact (ruleMove (s.judge_ruleMove n res)).trans (keepPrevious ..)
  · exact refl

theorem deliver (s : State) (d : Delivery) : StaysArmed s (s.deliver d) := by
  have captured : StaysArmed s ((s.writeResult d).captureResult d.slot) :=
    (of_within (s.writeResult_within d) (by decide)).trans (of_within (State.captureResult_within ..) (by decide))
  have evaluated : StaysArmed s (State.evaluateRules _ d.slot (d.record (s.result d.slot))) :=
    List.foldlRecOn (motive := StaysArmed s) _ _ captured fun t ht n _ => ht.trans (evaluate t _ _ n)
  exact evaluated.trans (of_within (State.requestFollowers_within ..) (by decide))

theorem completion (s : State) (k : Nat) (raw : Code12) : StaysArmed s (s.completion k raw) := by
  cases s.completion_handed k raw with
  | nothing hw => exact of_within hw (by decide)
  | delivered j _ hw => exact (deliver ..).trans (of_within hw (by decide))

theorem deadlineExpiry (s : State) : StaysArmed s s.deadlineExpiry := by
  cases s.deadlineExpiry_handed with
  | nothing hw => exact of_within hw (by decide)
  | delivered j _ hw => exact (deliver ..).trans (of_within hw (by decide))

end StaysArmed

end Sys2Proof.Safety

namespace Sys2Proof.Machine

open Sys2Proof.Safety

/-! ## The sources of an installed watch record (R101) -/

variable {s : State} {f : WatchFields} {r : WatchRecord}

/-- A staged watch record that passes its checks fails none of them (R99 to R101). -/
theorem State.watchDetail_eq_none (h : s.watchDetail f = .none) (d : Detail) : ¬WatchCheckFails s f d := fun hd =>
  absurd h ((s.watchDetail_firstFailing f).first d hd hd.code_bounds.1).1

theorem WatchFields.toRecord_parts (h : f.toRecord = some r) :
    slotOf f.srcA = some r.srcA ∧ f.watchKind = some r.kind ∧ r.pinned = f.pinned := by
  unfold toRecord at h
  split at h
  · next ha hk _ _ =>
    cases h
    exact ⟨ha, hk, rfl⟩
  · cases h

theorem WatchFields.watchKind_diffAbove {b : SlotIx} (h : f.watchKind = some (.diffAbove b)) :
    f.kind = .diffAbove ∧ slotOf f.srcB = some b := by
  unfold watchKind at h
  split at h
  case h_5 hk =>
    split at h
    · obtain ⟨c, hc, hb⟩ := Option.map_eq_some_iff.1 h
      cases hb
      exact ⟨hk, hc⟩
    · cases h
  all_goals cases h

/-- R101: the sources of a pinned record that passes its checks are ENABLED. -/
theorem State.sources_enabled (hd : s.watchDetail f = .none) (hr : f.toRecord = some r) (hp : r.pinned = true) :
    (s.record r.srcA).enabled = true ∧ ∀ b, r.kind = .diffAbove b → (s.record b).enabled = true := by
  obtain ⟨ha, hk, hpin⟩ := WatchFields.toRecord_parts hr
  have named : ∀ x n, slotOf x = some n → (s.record n).enabled = false →
      ∃ n : SlotIx, n.val = x.toNat ∧ (s.record n).enabled = false :=
    fun x n hn he => ⟨n, (slotOf_eq_some_iff x n).1 hn, he⟩
  have passed := State.watchDetail_eq_none hd .sourceDisabled
  refine ⟨?_, fun b hb => ?_⟩ <;> rw [← Bool.not_eq_false] <;> intro he
  · exact passed ⟨hpin ▸ hp, .inl (named _ _ ha he)⟩
  · obtain ⟨hdiff, hb⟩ := WatchFields.watchKind_diffAbove (hk.trans (congrArg some hb))
    exact passed ⟨hpin ▸ hp, .inr ⟨hdiff, named _ _ hb he⟩⟩

end Sys2Proof.Machine

namespace Sys2Proof.Safety.PinnedLaw

open Sys2Proof.Machine

variable {s t : State} {bs : List Block}

/-! ## What keeps the law -/

/-- Where the slots' and the rules' records stay and no rule becomes DISARMED. -/
theorem calm (h : PinnedLaw s) (k : TableCalm s t) (a : StaysArmed s t) : PinnedLaw t := by
  intro n hn
  rw [a.rule] at hn
  obtain ⟨hd, ha, hb⟩ := h n hn
  rw [a.rule]
  exact ⟨a.armed n hd, (k.record _).symm ▸ ha, fun b hk => (k.record b).symm ▸ hb b hk⟩

/-- An operation that leaves the slot table and the watch unit alone. -/
theorem within (h : PinnedLaw s) (w : Within bs s t) (hb : ∀ b ∈ [Block.slots, .watch], b ∉ bs) : PinnedLaw t :=
  h.calm (.of_within w (hb _ (by simp))) (.of_within w (hb _ (by simp)))

/-- R118: DISARM is refused for a pinned rule, so the rule that it disarms is none. -/
theorem disarmRule (h : PinnedLaw s) {n : RuleIx} (hn : (s.rule n).pinned = false) : PinnedLaw (s.disarmRule n) := by
  intro m hm
  rw [s.disarmRule_rule] at hm
  have hmn : m ≠ n := fun he => (nomatch (he ▸ hm).symm.trans hn)
  rw [s.disarmRule_rule, s.disarmRule_ruleRt, if_neg hmn]
  simpa only [fun k => (s.disarmRule_within n).record k (by decide)] using h m hm

/-- R11: COMMIT is refused for a slot that a pinned rule protects. -/
theorem setRecord (h : PinnedLaw s) {n : SlotIx} (hn : s.pinnedSource n = false) (r : SlotRecord) :
    PinnedLaw (s.setRecord n r) := by
  intro m hm
  have free : ∀ k, (s.rule m).srcA = k ∨ (s.rule m).kind = .diffAbove k → (s.setRecord n r).record k = s.record k := by
    intro k hk
    rw [State.record_setRecord, if_neg]
    rintro rfl
    exact Bool.eq_false_iff.1 hn ((s.pinnedSource_iff k).2 ⟨m, hm, hk⟩)
  obtain ⟨hd, ha, hb⟩ := h m hm
  exact ⟨hd, (free _ (.inl rfl)).symm ▸ ha, fun b hk => (free b (.inr hk)).symm ▸ hb b hk⟩

/-- R101, R103: a pinned record that is installed has ENABLED sources, and its rule starts in CLEAR. -/
theorem installRule (h : PinnedLaw s) (n : RuleIx) {f : WatchFields} {r : WatchRecord} (hd : s.watchDetail f = .none)
    (hr : f.toRecord = some r) : PinnedLaw (s.installRule n r) := by
  intro m hm
  rw [s.installRule_rule] at hm
  rw [s.installRule_rule, s.installRule_ruleRt]
  by_cases hmn : m = n
  · rw [if_pos hmn] at hm
    rw [if_pos hmn, if_pos hmn, hm]
    exact ⟨nofun, State.sources_enabled hd hr hm⟩
  · rw [if_neg hmn] at hm
    rw [if_neg hmn, if_neg hmn]
    exact h m hm

theorem commit (h : PinnedLaw s) : PinnedLaw s.commit.state := by
  obtain ⟨_, _, hc⟩ | ⟨n, r, -, hp, -, -, hc⟩ | ⟨n, r, -, -, -, hd, hr, hc⟩ := s.commit_cases <;> rw [hc]
  · exact h
  · have armed : StaysArmed s (s.installSlot n r) := .of_within (s.installSlot_within n r) (by decide)
    exact ((h.setRecord hp r).calm (s.installSlot_calm n r) ⟨armed.rule, armed.armed⟩).within
      (State.stageInstalledSlot_within ..) (by decide)
  · exact (h.installRule n hd hr).within (State.stageInstalledRule_within ..) (by decide)

theorem withIndex (h : PinnedLaw s) {bound : Nat} {arg : Byte} {f : Fin bound → CommandEnd}
    (hf : ∀ n, PinnedLaw (f n).state) : PinnedLaw (withIndex bound arg s f).state := by
  unfold Machine.withIndex
  split
  · exact hf _
  · exact h

theorem ack (h : PinnedLaw s) (arg : Byte) : PinnedLaw (State.ack arg s).state := by
  refine h.withIndex fun n => ?_
  split
  · exact h
  · split
    · exact h.calm (.of_within (s.clearRule_within n) (by decide)) (.clearRule s n)
    iterate 2 exact h.calm (.of_within (s.setRuleRt_within n _) (by decide)) (.setRuleRt id)
    all_goals exact h

theorem arm (h : PinnedLaw s) (arg : Byte) : PinnedLaw (State.arm arg s).state := by
  refine h.withIndex fun n => ?_
  split
  · exact h.calm (.of_within (s.setRuleRt_within n _) (by decide)) (.setRuleRt nofun)
  all_goals exact h

theorem disarm (h : PinnedLaw s) (arg : Byte) : PinnedLaw (State.disarm arg s).state := by
  refine h.withIndex fun n => ?_
  split
  · exact h
  · next hp =>
    split
    · exact h
    all_goals exact h.disarmRule (Bool.eq_false_iff.2 hp)

/-- R97: after a reset no rule is pinned. -/
theorem resetAll (s : State) (c : ResetCause) (b : Bool) : PinnedLaw (s.resetAll c b) := by
  have rule : ∀ n, (s.resetAll c b).rule n = .reset := by simp [State.resetAll, State.reset, State.rule]
  intro n hn
  rw [rule] at hn
  cases hn

end Sys2Proof.Safety.PinnedLaw

namespace Sys2Proof.Machine

open Sys2Proof.Safety

theorem Command.effect_pinnedLaw (c : Command) (arg : Byte) (s : State) (hc : c ≠ .softReset) (h : PinnedLaw s) :
    PinnedLaw (c.effect arg s).state := by
  by_cases hw : Block.watch ∈ commandBlocks c
  · cases c
    case softReset => exact absurd rfl hc
    case commit => exact h.commit
    case arm => exact h.arm arg
    case disarm => exact h.disarm arg
    case ack => exact h.ack arg
    all_goals exact absurd hw (by decide)
  · have other : c ≠ .commit := fun he => hw (he ▸ by decide)
    exact h.calm (c.effect_calm arg s hc other) (.of_within (c.effect_within arg s hc) hw)

theorem Reg.writeEffect_pinnedLaw (r : Reg) (d : Word) (f : State → State) (s : State) (hf : r.writeEffect d = some f)
    (h : PinnedLaw s) : PinnedLaw (f s) := by
  refine h.calm (r.writeEffect_calm d f s hf) (.of_within (r.writeEffect_within d f s hf) ?_)
  cases r <;> simp [writeBlocks]

theorem kept_pinnedLaw : Kept PinnedLaw where
  quiet k h := h.within k.within (by decide)
  command c arg s hc := c.effect_pinnedLaw arg s hc
  write r d f s hf := r.writeEffect_pinnedLaw d f s hf
  captureTime s h := h.within s.captureTime_within (by decide)
  captureEntry s h := h.within s.captureEntry_within (by decide)
  captureJob s h := h.within s.captureJob_within (by decide)
  captureFault s h := h.within s.captureFault_within (by decide)
  resetAll s c b _ := .resetAll s c b
  resetEnd s h := h.within (s.setTriggers_within _) (by decide)
  completion s k raw h := h.calm (s.completion_calm k raw) (.completion s k raw)
  deadlineExpiry s h := h.calm s.deadlineExpiry_calm (.deadlineExpiry s)
  tick s k h := h.within (s.tick_within k) (by decide)
  periodicExpiry s n h := h.calm (s.periodicExpiry_calm n) (.of_within (s.periodicExpiry_within n) (by decide))
  edge s pin l h := h.calm (s.edge_calm pin l) (.of_within (s.edge_within pin l) (by decide))
  pointReached s c h := h.calm (s.pointReached_calm c) (.of_within (s.pointReached_within c) (by decide))
  periodEnd s c h := h.calm (s.periodEnd_calm c) (.of_within (s.periodEnd_within c) (by decide))
  dutyEnd s c h := h.within (s.dutyEnd_within c) (by decide)
  softStartExpiry s n h := h.within (s.setSwitch_within n _) (by decide)
  refillExpiry s n h := h.within (s.setSwitch_within n _) (by decide)
  retryExpiry s n h := h.within (s.setSwitch_within n _) (by decide)
  currentLimit s n h := h.within (s.currentLimit_within n) (by decide)

/-- Settles O56: every part of a step keeps the law. DISARM, COMMIT of a protected slot and COMMIT of a pinned rule are
refused, and a pinned record is installed only with its sources ENABLED. -/
theorem pinnedLawKept : Obligations.PinnedLawKept :=
  fun _ _ hs ht => kept_pinnedLaw.step hs ht

end Sys2Proof.Machine
end

section
/-! PROOF. The check EMPTY_RELEASE_BAND, and a COMMIT of a watch rule that passes its checks (R100, R103, R105). -/

namespace Sys2Proof.Machine

open Sys2Proof.Safety

/-! ## EMPTY_RELEASE_BAND -/

/-- A band is empty exactly when the value that lies in it before any other does not lie in it. -/
theorem forall_not_iff_of_best {observable band : Int → Prop} (best : Int) (ho : band best → observable best)
    (hb : ∀ v, observable v → band v → band best) : (∀ v, observable v → ¬band v) ↔ ¬band best :=
  ⟨fun h hband => h best (ho hband) hband, fun h v hv hband => h (hb v hv hband)⟩

/-- Settles O16: for each kind the observable value that is releasing if any is: the smallest one for the kinds that
release below a threshold, the greatest for BELOW, the lower end of the band for OUTSIDE. INSIDE releases on two sides. -/
theorem emptyReleaseBand : Obligations.EmptyReleaseBand := by
  intro f ht
  have t2 := f.t2.isLt
  unfold WatchFields.emptyReleaseBand
  cases hk : f.kind <;> simp only [observable, releasingBand]
  case above =>
    rw [forall_not_iff_of_best 0 (by omega) (by omega), decide_eq_true_iff]
    omega
  case below =>
    rw [forall_not_iff_of_best 4095 (by omega) (by omega), decide_eq_true_iff]
    omega
  case outside =>
    have t1 : 0 ≤ f.t1.toInt := ht (by rw [hk]; decide)
    rw [forall_not_iff_of_best (f.t1.toInt + f.h.toNat) (by omega) (by omega), decide_eq_true_iff]
    omega
  case inside =>
    rw [Bool.and_eq_true, decide_eq_true_iff, decide_eq_true_iff]
    constructor
    · omega
    · intro h
      have low := h 0
      have high := h 4095
      omega
  case diffAbove =>
    rw [forall_not_iff_of_best (-4095) (by omega) (by omega), decide_eq_true_iff]
    omega
  case step =>
    rw [forall_not_iff_of_best 0 (by omega) (by omega)]
    simp

/-! ## A COMMIT that passes its checks -/

variable {s : State} {f : WatchFields}

/-- R97: the checks of the sources, of source B and of the cap channel are all that keeps a field group from being a
record. -/
theorem WatchFields.exists_toRecord (h : s.watchDetail f = .none) : ∃ r, f.toRecord = some r := by
  have passed := State.watchDetail_eq_none h
  have source := passed .badSource
  have required := passed .bRequired
  have channel := passed .badCapChannel
  simp only [WatchCheckFails, not_or, not_and, not_lt] at source required channel
  obtain ⟨ha, hb, hs⟩ := source
  have present : f.kind = .diffAbove → f.bPresent = true := fun hk => by simpa using required hk
  obtain ⟨a, hsrc, -⟩ := exists_slotOf ha
  obtain ⟨kind, hkind, -⟩ := exists_watchKind fun hk => ⟨present hk, (hb hk (present hk)).1⟩
  obtain ⟨cap, hcap, -⟩ := exists_capPart channel
  obtain ⟨snapshot, hsnap, -⟩ := exists_snapPart hs
  exact ⟨_, toRecord_of_parts hsrc hkind hcap hsnap⟩

theorem State.commitWatch_ok {n : RuleIx} {r : WatchRecord} (ha : (s.ruleRt n).state.active = false)
    (hp : (s.rule n).pinned = false) (hd : s.watchDetail s.staging.watch = .none)
    (hr : s.staging.watch.toRecord = some r) :
    s.commitWatch n = .result ((s.installRule n r).stageInstalledRule n r) .ok := by
  simp [commitWatch, ha, hp, hd, hr]

/-- R103: the staging buffer shows the record and the runtime that have been installed. -/
theorem State.stageInstalledRule_eq (s : State) (n : RuleIx) (r : WatchRecord) :
    (s.installRule n r).stageInstalledRule n r =
      (s.installRule n r).setStaging { s.staging with
        watch := r.toFields
        watchSnap := { RuleRuntime.reset with state := if r.pinned then .clear else .disarmed } } := by
  rw [stageInstalledRule, s.installRule_ruleRt, if_pos rfl]
  rfl

/-- Settles O19: the record that the passed checks allow, and its installation as one update. -/
theorem commitWatch : Obligations.CommitWatch := by
  intro s n arg hr hl ht hm ha hp hd
  rw [State.detail_watch hl ht] at hd
  obtain ⟨r, hrec⟩ := WatchFields.exists_toRecord hd
  refine ⟨r, hrec, ?_⟩
  rw [State.exec_commit hr ((State.commit_watch hl hm ht).trans (State.commitWatch_ok ha hp hd hrec)),
    s.stageInstalledRule_eq]
  rfl

end Sys2Proof.Machine
end

section
/-! PROOF. How a delivery is sorted, and how the rule that evaluates it moves (R104, R105, R107 to R110, R113, R114). -/

namespace Sys2Proof.Machine

open Sys2Proof.Safety

/-! ## Verdicts -/

namespace State

variable {s : State} {n : RuleIx} {res : ResultRecord}

/-- R107: an INVALID delivery. -/
theorem verdict_unusable (h : res.state ≠ .valid) : s.verdict n res = .unusable (s.rule n).failSafe := by
  unfold verdict
  cases hs : res.state with
  | valid => exact absurd hs h
  | absent | invalid => rfl

/-- R105: the kinds that judge the value of A. -/
theorem verdict_value (h : res.state = .valid) (hk : (s.rule n).kind.toCode ∈ [.above, .below, .outside, .inside]) :
    s.verdict n res = (s.rule n).bands res.value.toNat := by
  unfold verdict
  simp only [h]
  cases hkind : (s.rule n).kind with
  | above | below | outside | inside => rfl
  | diffAbove | step => simp [hkind, WatchKind.toCode] at hk

/-- R105: the difference, where source B is usable. -/
theorem verdict_difference {b : SlotIx} (h : res.state = .valid) (hk : (s.rule n).kind = .diffAbove b)
    (hb : (s.result b).state = .valid) :
    s.verdict n res = (s.rule n).bands (res.value.toNat - (s.result b).value.toNat) := by
  simp only [verdict, h, hk, hb]

/-- R108: no difference without a usable source B. -/
theorem verdict_noDifference {b : SlotIx} (h : res.state = .valid) (hk : (s.rule n).kind = .diffAbove b)
    (hb : (s.result b).state ≠ .valid) : s.verdict n res = .unusable (s.rule n).failSafe := by
  simp only [verdict, h, hk]
  cases hs : (s.result b).state with
  | valid => exact absurd hs hb
  | absent | invalid => rfl

/-- R105: the step from the previous value. -/
theorem verdict_step {p : Code12} (h : res.state = .valid) (hk : (s.rule n).kind = .step)
    (hp : (s.ruleRt n).previous = some p) :
    s.verdict n res = (s.rule n).bands |(res.value.toNat : Int) - p.toNat| := by
  simp only [verdict, h, hk, hp]

/-- R105: no step without a previous value. -/
theorem verdict_noStep (h : res.state = .valid) (hk : (s.rule n).kind = .step) (hp : (s.ruleRt n).previous = none) :
    s.verdict n res = .skipped := by
  simp only [verdict, h, hk, hp]

end State

/-- Settles O37: each kind judges one value by its bands, and the bands sort every value. -/
theorem verdicts : Obligations.Verdicts := by
  intro s n res r unusable sorted
  refine ⟨fun h => State.verdict_unusable h, fun h => ?_⟩
  have sort : ∀ v, s.verdict n res = r.bands v → sorted v r.kind.t2.toNat := by
    intro v hv
    simp only [sorted, hv]
    exact r.bands_sorted v
  have value : r.kind.toCode ∈ [.above, .below, .outside, .inside] → sorted res.value.toNat r.kind.t2.toNat :=
    fun hk => sort _ (State.verdict_value h hk)
  cases hk : r.kind <;> rw [hk] at sort value
  case above | below | outside | inside => exact value (by simp [WatchKind.toCode])
  case diffAbove b =>
    dsimp only
    split
    · next hb => exact sort _ (State.verdict_difference h hk hb)
    · next hb => exact State.verdict_noDifference h hk hb
  case step =>
    dsimp only
    split
    · next hp => exact sort _ (State.verdict_step h hk hp)
    · next hp => exact State.verdict_noStep h hk hp

/-! ## Moves -/

/-- A move to the state and run count that the rule has already. -/
theorem State.moveRule_self {s : State} {n : RuleIx} {st : RuleState} {run : Nat} (hst : (s.ruleRt n).state = st)
    (hrun : (s.ruleRt n).run = run) : s.moveRule n st run = s := by
  subst hst hrun
  exact s.setRuleRt_self n

/-- R114. -/
theorem State.release_eq (s : State) (n : RuleIx) : s.release n =
    if (s.rule n).latching = true ∧ (s.ruleRt n).ackAhead = false then s.moveRule n .latched 0 else s.clearRule n :=
  if_congr (and_congr_right' (by rw [Bool.not_eq_true'])) rfl rfl

/-- R109: in CLEAR and in TRIPPED the run count is 0. -/
theorem runLaw_zero {r : WatchRecord} {x : RuleRuntime} (h : RunLaw r x) (hx : x.state = .clear ∨ x.state = .tripped) :
    x.run = 0 := by
  obtain ⟨run, -, -⟩ := h
  obtain hx | hx := hx <;> simpa only [hx] using run

/-- Settles O38: the table's entries are the model's, but for CLEAR and TRIPPED, where the model moves a rule to the state
and the run count that it has already. -/
theorem ruleMoves : Obligations.RuleMoves := by
  intro s n res law x r move qualify freed releaseRun
  have released : ∀ run, s.countReleasing n run = releaseRun run := fun run =>
    if_congr Iff.rfl (s.release_eq n) rfl
  have stays : ∀ st, st = .clear ∨ st = .tripped → (s.ruleRt n).state = st → s.moveRule n st 0 = s := fun _ hst hx =>
    State.moveRule_self hx (runLaw_zero law (hst.imp hx.trans hx.trans))
  unfold State.judge
  cases hx : (s.ruleRt n).state <;> cases hv : s.verdict n res <;> dsimp only
  case clear.releasing | clear.neutral => exact stays .clear (.inl rfl) hx
  case tripped.qualifying | tripped.neutral => exact stays .tripped (.inr rfl) hx
  case tripped.releasing => exact released 1
  case releasing.releasing => exact released _
  all_goals rfl

end Sys2Proof.Machine
end

section
/-! PROOF. The entry actions of a trip, and what it writes to the log (R58, R111, R122, R123, R181). -/

namespace Sys2Proof.Machine

open Sys2Proof.Safety

namespace State

variable (s : State) (n : RuleIx) (res : ResultRecord)

/-! ## The entry actions up to the count (R111 steps 1 to 3) -/

/-- The trip is in FAULT and in the log, and is counted. -/
def tripCounted : State :=
  ((s.entered n).faultUpdate.logTrip ((s.entered n).faultUpdate.tripEntry n res)).setRuleRt n
    { s.ruleRt n with
      state := .tripped, run := 0, trips := min 255 ((s.ruleRt n).trips + 1), lastTrip := some s.now }

/-- R122: the entry, from the state before the trip. -/
theorem tripEntry_entered : (s.entered n).faultUpdate.tripEntry n res =
    { rule := n, aSlot := (s.rule n).srcA
      aValue := if res.state = .valid then res.value else 0
      aInvalid := decide (res.state ≠ .valid)
      b := match (s.rule n).kind with
        | .diffAbove b => if (s.result b).state = .valid then some ((s.result b).value, false) else some (0, true)
        | _ => none
      time := s.now, overflow := 0 } := by
  have rule : (s.entered n).faultUpdate.rule n = s.rule n := s.entered_rule n n
  have result : ∀ b, (s.entered n).faultUpdate.result b = s.result b := fun b =>
    (s.entered_within n).result b (by decide)
  have now : (s.entered n).faultUpdate.now = s.now := (s.entered_within n).now (by decide)
  have invalid : (res.state != .valid) = decide (res.state ≠ .valid) := by cases res.state <;> rfl
  simp only [tripEntry, rule, result, now, invalid, TripEntry.mk.injEq, true_and, and_true]
  unfold WatchRecord.srcB
  cases (s.rule n).kind with
  | diffAbove b => simp only [Option.map_some, apply_ite some]
  | above | below | outside | inside | step => rfl

/-! ## The request and the exit (R111 steps 4 to 6) -/

/-- R58: the snapshot request of a rule with record `r`. -/
def snapshotFor (r : WatchRecord) (t : State) : State :=
  match r.snapshot with
  | some k => if (t.record k).enabled = true ∧ (t.mode.mode = .active ∨ (t.record k).guard = true) then
      t.request .snapshot k else t
  | none => t

/-- R181: the exit of a wake rule with record `r`. -/
def exitFor (r : WatchRecord) (n : RuleIx) (t : State) : State :=
  if t.mode.mode = .guard ∧ r.wake = true then t.leaveGuard (.wake n) else t

theorem snapshotRequest_eq : s.snapshotRequest n = snapshotFor (s.rule n) s := by
  unfold snapshotRequest snapshotFor
  cases (s.rule n).snapshot with
  | none => rfl
  | some k => exact s.raise_eq .snapshot k

theorem wakeExit_eq (hw : (s.rule n).wake = true) : s.wakeExit n = exitFor (s.rule n) n s := by
  unfold wakeExit exitFor
  cases s.mode.mode <;> simp [hw]

variable {s n}

/-- Where there is nothing to leave, or no rule to wake, there is no exit. -/
theorem exitFor_stays {r : WatchRecord} (h : ¬(s.mode.mode = .guard ∧ r.wake = true)) : exitFor r n s = s := if_neg h

theorem snapshotFor_none {r : WatchRecord} (h : r.snapshot.isSome = false) : snapshotFor r s = s := by
  unfold snapshotFor
  rw [Option.isSome_eq_false_iff, Option.isNone_iff_eq_none] at h
  rw [h]

/-- Log 12: the request and the exit come in one of the two orders. -/
theorem snapshotAndExit_orders {r : WatchRecord} (hr : s.rule n = r) : ∃ k,
    s.snapshotAndExit n =
        exitFor r n ((snapshotFor r { s with choices := k }).occurIf r.irq .watchTrip) ∨
      s.snapshotAndExit n =
        snapshotFor r (exitFor r n (({ s with choices := k } : State).occurIf r.irq .watchTrip)) := by
  have request : ∀ t : State, t.rule n = r → t.snapshotRequest n = snapshotFor r t := fun t ht =>
    ht ▸ t.snapshotRequest_eq n
  have exit : r.wake = true → ∀ t : State, t.rule n = r → t.wakeExit n = exitFor r n t := fun hw t ht => by
    rw [t.wakeExit_eq n (ht.symm ▸ hw), ht]
  have requested : ∀ t : State, (t.snapshotRequest n).rule n = t.rule n := fun t =>
    (snapshotRequest_within t n).rule n (by decide)
  have latched : ∀ (t : State) b, (t.occurIf b .watchTrip).rule n = t.rule n := fun t b =>
    (occurIf_within t b .watchTrip).rule n (by decide)
  have used : s.useChoice.rule n = r := hr
  have left : ∀ t : State, (t.wakeExit n).rule n = t.rule n := fun t => (wakeExit_within t n).rule n (by decide)
  unfold snapshotAndExit
  simp only [hr]
  by_cases hx : s.mode.mode = .guard ∧ r.wake = true
  · rw [if_pos hx]
    cases hs : r.snapshot.isSome with
    | true =>
      refine ⟨s.choices + 1, ?_⟩
      by_cases hf : Config.snapshotFirst s.choices = true
      · rw [if_pos rfl, if_pos hf, exit hx.2 _ ((latched ..).trans ((requested _).trans used)), request _ used]
        exact .inl rfl
      · rw [if_pos rfl, if_neg hf, request _ ((left _).trans ((latched ..).trans used)),
          exit hx.2 _ ((latched ..).trans used)]
        exact .inr rfl
    | false =>
      refine ⟨s.choices, .inl ?_⟩
      rw [if_neg Bool.false_ne_true, exit hx.2 _ ((latched ..).trans hr), snapshotFor_none hs]
  · have mode : ((s.snapshotRequest n).occurIf r.irq .watchTrip).mode = s.mode :=
      ((occurIf_within ..).mode (by decide)).trans ((snapshotRequest_within s n).mode (by decide))
    refine ⟨s.choices, .inl ?_⟩
    rw [if_neg hx, ← request _ hr]
    exact (exitFor_stays (mode.symm ▸ hx)).symm

/-- R111: the trip, from the state in which it is counted. -/
theorem trip_eq (s : State) (n : RuleIx) (res : ResultRecord) : s.trip n res =
    ((s.tripCounted n res).snapshotAndExit n).setRuleRt n
      { ((s.tripCounted n res).snapshotAndExit n).ruleRt n with ackAhead := false } := by
  have rt : ∀ e, ((s.entered n).faultUpdate.logTrip e).ruleRt n = { s.ruleRt n with state := .tripped, run := 0 } :=
    fun e => ((logTrip_within ..).ruleRt n (by decide)).trans ((s.entered_ruleRt n n).trans (if_pos rfl))
  have now : ∀ e, ((s.entered n).faultUpdate.logTrip e).now = s.now := fun e =>
    ((logTrip_within ..).now (by decide)).trans ((s.entered_within n).now (by decide))
  have counted : s.tripCounted n res =
      let logged := (s.entered n).faultUpdate.logTrip ((s.entered n).faultUpdate.tripEntry n res)
      logged.setRuleRt n
        { logged.ruleRt n with trips := satInc 255 (logged.ruleRt n).trips, lastTrip := some logged.now } := by
    simp only [rt, now, satInc, tripCounted, Nat.min_comm]
  rw [counted]
  rfl

theorem tripCounted_rule (s : State) (n : RuleIx) (res : ResultRecord) : (s.tripCounted n res).rule n = s.rule n :=
  ((logTrip_within ..).rule n (by decide)).trans (s.entered_rule n n)

/-! ## The trip log (R123) -/

theorem bumpOverflow_append {a : List TripEntry} {z : TripEntry} (ha : a.length = 15) :
    bumpOverflow (a ++ [z]) = a ++ [{ z with overflow := min 255 (z.overflow + 1) }] := by
  rw [bumpOverflow, show Config.tripLogSize - 1 = a.length from ha.symm]
  simp [List.modify_eq_take_cons_drop, satInc, Nat.min_comm]

end State

/-- Settles O39: the trip from the state in which it is counted, and the two orders of what follows; each case of the log
by its length. -/
theorem tripActions : Obligations.TripActions := by
  refine ⟨fun s n res => ?actions, fun s e => ⟨fun hl => ?below, fun hl => ?last, fun a z ha hl => ?full⟩⟩
  case actions =>
    intro r entered logged counted snapshot irq exit cleared
    have hcounted : s.tripCounted n res = counted := by
      rw [State.tripCounted, s.tripEntry_entered, s.entered_eq]
      rfl
    obtain ⟨k, h⟩ := State.snapshotAndExit_orders (s.tripCounted_rule n res)
    refine ⟨k, ?_⟩
    rw [s.trip_eq, hcounted]
    rw [hcounted] at h
    exact h.imp (congrArg cleared) (congrArg cleared)
  case below =>
    have room : s.tripLog.entries.length < Config.tripLogSize := Nat.lt_succ_of_lt hl
    have more : (s.tripLog.entries.length + 1 == Config.tripLogSize) = false := beq_false_of_ne (by
      simp only [Config.tripLogSize]; omega)
    rw [State.logTrip, if_pos room, more]
    rfl
  case last =>
    rw [State.logTrip, if_pos (by rw [hl]; decide), hl]
    rfl
  case full =>
    have length : a.length = 15 := by simpa [ha] using hl
    rw [State.logTrip, if_neg (by rw [hl]; decide), ha, State.bumpOverflow_append length]
    rfl

end Sys2Proof.Machine
end

section
/-! PROOF. The release of a rule into CLEAR, and the four commands of the rules (R112, R114, R116 to R118, R125, R140,
R157). -/

namespace Sys2Proof.Machine

open Sys2Proof.Safety

/-- Settles O40: the parts of the release into CLEAR, one after another. -/
theorem claimsWithdrawn : Obligations.ClaimsWithdrawn := fun _ _ => rfl

namespace State

variable {s t : State} {arg : Byte} {r : ResultCode}

theorem exec_ack (hr : Ready s) (h : ack arg s = .result t r) : exec (.ack arg) s = .next (finished t 0x32 arg r) :=
  congrArg Host.Outcome.next (hostCommand_finished (c := .ack) hr h)

theorem exec_arm (hr : Ready s) (h : arm arg s = .result t r) : exec (.arm arg) s = .next (finished t 0x30 arg r) :=
  congrArg Host.Outcome.next (hostCommand_finished (c := .arm) hr h)

theorem exec_disarm (hr : Ready s) (h : disarm arg s = .result t r) :
    exec (.disarm arg) s = .next (finished t 0x31 arg r) :=
  congrArg Host.Outcome.next (hostCommand_finished (c := .disarm) hr h)

/-- R118: an active rule that is disarmed gives up its claims. -/
theorem disarmRule_active {n : RuleIx} (h : (s.ruleRt n).state.active = true) : s.disarmRule n =
    faultUpdate { s.setRuleRt n { s.ruleRt n with state := .disarmed, run := 0, ackAhead := false, previous := none } with
      switches := tabulate fun k => (s.switch k).dropHold n
      pwm := tabulate fun c => (s.channel c).dropRule n } := if_pos h

theorem disarmRule_inactive {n : RuleIx} (h : (s.ruleRt n).state.active = false) : s.disarmRule n =
    s.setRuleRt n { s.ruleRt n with state := .disarmed, run := 0, ackAhead := false, previous := none } :=
  if_neg (Bool.eq_false_iff.1 h)

end State

/-- Settles O41: each command by its argument, then by the rule's record and state. -/
theorem ruleCommands : Obligations.RuleCommands := by
  refine ⟨fun s b hr hb => ⟨?_, ?_, ?_⟩, fun s n hr => ⟨?ack, ?arm, ?disarm⟩, fun s arg hr => ?clear⟩
  · exact State.exec_ack hr (withIndex_ge hb)
  · exact State.exec_arm hr (withIndex_ge hb)
  · exact State.exec_disarm hr (withIndex_ge hb)
  case ack =>
    have effect : State.ack (num 8 n) s = _ := withIndex_num (by decide) n
    cases hl : (s.rule n).latching with
    | false => exact State.exec_ack hr (effect.trans (by simp [hl]))
    | true =>
      cases hx : (s.ruleRt n).state <;> exact State.exec_ack hr (effect.trans (by simp [hl, hx]))
  case arm =>
    have effect : State.arm (num 8 n) s = _ := withIndex_num (by decide) n
    cases hx : (s.ruleRt n).state <;> exact State.exec_arm hr (effect.trans (by simp [hx]))
  case disarm =>
    intro silent
    have effect : State.disarm (num 8 n) s = _ := withIndex_num (by decide) n
    cases hp : (s.rule n).pinned with
    | true => exact State.exec_disarm hr (effect.trans (by simp [hp]))
    | false =>
      cases hx : (s.ruleRt n).state
      case disarmed => exact State.exec_disarm hr (effect.trans (by simp [hp, hx]))
      case clear | pending =>
        have withdrawn := State.disarmRule_inactive (congrArg RuleState.active hx)
        exact State.exec_disarm hr (effect.trans (by simp [hp, hx, withdrawn, silent]))
      case tripped | releasing | latched =>
        have withdrawn := State.disarmRule_active (congrArg RuleState.active hx)
        exact State.exec_disarm hr (effect.trans (by simp [hp, hx, withdrawn, silent]))
  case clear => exact congrArg Host.Outcome.next (State.hostCommand_finished (c := .triplogClear) hr rfl)

end Sys2Proof.Machine
end

section
/-! SUPPORT. What the operations of a switch do, case by case, in the words the statements use (R130 to R137, R139, R140). -/

namespace Sys2Proof.Machine

open Sys2Proof.Safety

theorem or_ruleBit_ne_zero (x : BitVec 16) (r : RuleIx) : x ||| ruleBit r ≠ 0 := fun h => by
  simpa [h] using getLsbD_or_ruleBit x r r

namespace Switch

variable (w : Switch) (r : RuleIx)

/-- R133: entry into SOFTSTART, with the lengths of R127's table. -/
theorem enterSoftStart_eq : w.enterSoftStart = { w with
    state := .softstart, timer := some ⟨.softStart, [250, 500, 1000, 2000].getD w.cfg.softStart.toNat 0⟩ } := by
  rw [enterSoftStart, softStartMicros_eq]

/-- R139: a hold joins the set, and opens a switch that was SOFTSTART, ON or ILIM_WAIT with an empty set. -/
theorem addHold_eq : w.addHold r =
    if w.holds = 0 ∧ (w.state = .softstart ∨ w.state = .on ∨ w.state = .ilimWait) then
      { w with holds := w.holds ||| ruleBit r, state := .held, timer := none }
    else { w with holds := w.holds ||| ruleBit r } := by
  unfold addHold
  cases w.state <;> simp only [reduceCtorEq, or_self, or_false, or_true, and_false, and_true, if_false]
  case softstart | on | ilimWait => rfl

/-- R140: the last hold that leaves lets a HELD switch restore by its policy. -/
theorem dropHold_eq : w.dropHold r =
    if w.state = .held ∧ w.holds ≠ 0 ∧ w.holds &&& ~~~ruleBit r = 0 then
      match w.cfg.restore with
      | .auto => { w with holds := w.holds &&& ~~~ruleBit r }.enterSoftStart
      | .manual => { w with holds := w.holds &&& ~~~ruleBit r, state := .off, timer := none, demand := false }
    else { w with holds := w.holds &&& ~~~ruleBit r } := by
  unfold dropHold
  cases w.cfg.restore <;> rfl

/-- R136: a switch with no retry left enters LOCKOUT. -/
theorem limited_lockout (h : w.retries = 0) :
    w.limited = { w with state := .lockout, trips := satInc 255 w.trips, timer := none } := by
  rw [limited, if_pos h]
  rfl

/-- R136: a switch with a retry left takes it and waits. -/
theorem limited_retry (h : w.retries ≠ 0) : w.limited = { w with
    state := .ilimWait, trips := satInc 255 w.trips, retries := w.retries - 1
    timer := some ⟨.retry, 1000 * w.cfg.retryDelay.toNat⟩ } := by
  rw [limited, if_neg h]
  rfl

end Switch

/-- R128: the output is energized in SOFTSTART and ON. -/
theorem State.swOut_iff (s : State) (n : SwIx) :
    s.swOut n = true ↔ (s.switch n).state = .softstart ∨ (s.switch n).state = .on := by
  unfold swOut
  cases (s.switch n).state <;> simp

end Sys2Proof.Machine
end

section
/-! PROOF. Every step keeps the law of the switches (R128, R143). -/

namespace Sys2Proof.Safety

open Sys2Proof.Machine

/-! ## One switch -/

/-- R127, R128, R143: the counts of a switch are in their ranges, whatever its state. -/
structure CountsLaw (w : Switch) : Prop where
  retries : w.retries ≤ w.cfg.retryMax.toNat
  trips : w.trips ≤ 255
  delay : 1 ≤ w.cfg.retryDelay.toNat

namespace CountsLaw

variable {w : Switch}

theorem enterSoftStart (h : CountsLaw w) (hd : w.demand = true) (hh : w.holds = 0) : SwitchLaw w.enterSoftStart :=
  ⟨rfl, h.retries, h.trips, h.delay, hd, hh⟩

theorem enterOn (h : CountsLaw w) (hd : w.demand = true) (hh : w.holds = 0) : SwitchLaw w.enterOn :=
  ⟨rfl, h.retries, h.trips, h.delay, hd, hh⟩

theorem enterIlimWait (h : CountsLaw w) (hd : w.demand = true) (hh : w.holds = 0) : SwitchLaw w.enterIlimWait :=
  ⟨rfl, h.retries, h.trips, h.delay, hd, hh⟩

theorem enterHeld (h : CountsLaw w) (hd : w.demand = true) (hh : w.holds ≠ 0) : SwitchLaw (w.enterIdle .held) :=
  ⟨rfl, h.retries, h.trips, h.delay, hd, hh⟩

theorem enterOff (h : CountsLaw w) (hd : w.demand = false) : SwitchLaw (w.enterIdle .off) :=
  ⟨rfl, h.retries, h.trips, h.delay, hd⟩

theorem enterLockout (h : CountsLaw w) (hr : w.retries = 0) : SwitchLaw (w.enterIdle .lockout) :=
  ⟨rfl, h.retries, h.trips, h.delay, hr⟩

end CountsLaw

namespace SwitchLaw

variable {w : Switch}

theorem counts (h : SwitchLaw w) : CountsLaw w :=
  have ⟨_, retries, trips, delay, _⟩ := h
  ⟨retries, trips, delay⟩

/-- Demand is ON and the hold set is empty in SOFTSTART, ON and ILIM_WAIT. -/
theorem of_running (h : SwitchLaw w) (hs : w.state = .softstart ∨ w.state = .on ∨ w.state = .ilimWait) :
    w.demand = true ∧ w.holds = 0 := by
  obtain ⟨-, -, -, -, own⟩ := h
  obtain hs | hs | hs := hs <;> rw [hs] at own <;> exact own

theorem of_held (h : SwitchLaw w) (hs : w.state = .held) : w.demand = true ∧ w.holds ≠ 0 := by
  obtain ⟨-, -, -, -, own⟩ := h
  rw [hs] at own
  exact own

/-- R133. -/
theorem softStartExpiry (h : SwitchLaw w) : SwitchLaw w.softStartExpiry := by
  unfold Switch.softStartExpiry
  split
  · next hs =>
    obtain ⟨hd, hh⟩ := h.of_running (.inl hs.1)
    exact h.counts.enterOn hd hh
  · exact h

/-- R134: the budget that is restored is the maximum. -/
theorem refillExpiry (h : SwitchLaw w) : SwitchLaw w.refillExpiry := by
  unfold Switch.refillExpiry
  split
  · next hs =>
    obtain ⟨hd, hh⟩ := h.of_running (.inr (.inl hs.1))
    have ⟨_, trips, delay⟩ := h.counts
    exact CountsLaw.enterOn (w := { w with retries := w.cfg.retryMax.toNat }) ⟨le_rfl, trips, delay⟩ hd hh
  · exact h

/-- R135. -/
theorem retryExpiry (h : SwitchLaw w) : SwitchLaw w.retryExpiry := by
  unfold Switch.retryExpiry
  split
  · next hs =>
    obtain ⟨hd, hh⟩ := h.of_running (.inr (.inr hs.1))
    exact h.counts.enterSoftStart hd hh
  · exact h

/-- Time that passes changes only what is left to the timer. -/
theorem tick (h : SwitchLaw w) (k : Nat) : SwitchLaw (w.tick k) := by
  obtain ⟨timer, rest⟩ := h
  exact ⟨(Option.map_map ..).trans timer, rest⟩

/-- R136: LOCKOUT is entered only with no retry left. -/
theorem limited (h : SwitchLaw w) (hs : w.state = .softstart ∨ w.state = .on) : SwitchLaw w.limited := by
  have ⟨retries, _, delay⟩ := h.counts
  obtain ⟨hd, hh⟩ := h.of_running (hs.imp_right .inl)
  by_cases hr : w.retries = 0
  · rw [w.limited_lockout hr]
    exact CountsLaw.enterLockout (w := { w with trips := satInc 255 w.trips }) ⟨retries, min_le_right _ _, delay⟩ hr
  · rw [w.limited_retry hr]
    exact CountsLaw.enterIlimWait (w := { w with trips := satInc 255 w.trips, retries := w.retries - 1 })
      ⟨(Nat.sub_le _ _).trans retries, min_le_right _ _, delay⟩ hd hh

/-- R139: a switch that keeps its state although a hold arrives is one whose law allows a hold. -/
theorem addHold (h : SwitchLaw w) (r : RuleIx) : SwitchLaw (w.addHold r) := by
  have counts : CountsLaw { w with holds := w.holds ||| ruleBit r } := ⟨h.counts.retries, h.counts.trips, h.counts.delay⟩
  rw [w.addHold_eq]
  split
  · next hs => exact counts.enterHeld (h.of_running hs.2).1 (or_ruleBit_ne_zero _ r)
  · next hs =>
    have idle : ¬(w.state = .softstart ∨ w.state = .on ∨ w.state = .ilimWait) := fun hx => hs ⟨(h.of_running hx).2, hx⟩
    obtain ⟨timer, retries, trips, delay, own⟩ := h
    refine ⟨timer, retries, trips, delay, ?_⟩
    cases hx : w.state <;> simp only [hx, reduceCtorEq, or_self, or_false, or_true, not_true] at idle own ⊢
    case off | lockout => exact own
    case held => exact ⟨own.1, or_ruleBit_ne_zero _ r⟩

/-- R140: a HELD switch stays only while a hold is left. -/
theorem dropHold (h : SwitchLaw w) (r : RuleIx) : SwitchLaw (w.dropHold r) := by
  have ⟨retries, trips, delay⟩ := h.counts
  have counts : ∀ d x, CountsLaw { w with holds := x, demand := d } := fun _ _ => ⟨retries, trips, delay⟩
  rw [w.dropHold_eq]
  split
  · next hs =>
    obtain ⟨held, -, empty⟩ := hs
    split
    · exact (counts w.demand _).enterSoftStart (h.of_held held).1 empty
    · exact (counts false _).enterOff rfl
  · next hs =>
    have stays : w.state = .held → w.holds &&& ~~~ruleBit r ≠ 0 := fun hx he => hs ⟨hx, (h.of_held hx).2, he⟩
    obtain ⟨timer, -, -, -, own⟩ := h
    refine ⟨timer, retries, trips, delay, ?_⟩
    cases hx : w.state <;> simp only [hx] at own ⊢
    case off | lockout => exact own
    case held => exact ⟨own.1, stays hx⟩
    case softstart | on | ilimWait => exact ⟨own.1, by simp [own.2]⟩

/-- R143: retry remaining is clipped to the new maximum, and a retry delay of 0 is set aside. -/
theorem writeCfg (h : SwitchLaw w) (d : Word) : SwitchLaw (w.writeCfg d) := by
  obtain ⟨timer, -, trips, delay, own⟩ := h
  refine ⟨timer, min_le_right _ _, trips, ?delay, ?own⟩
  case delay =>
    show 1 ≤ (if field d 8 8 = 0 then w.cfg.retryDelay else field d 8 8).toNat
    split
    · exact delay
    · next hd => exact Nat.one_le_iff_ne_zero.2 fun h0 => hd (BitVec.eq_of_toNat_eq h0)
  case own =>
    simp only [Switch.writeCfg]
    cases hx : w.state <;> simp only [hx] at own ⊢
    case lockout => rw [own, Nat.zero_min]
    all_goals exact own

/-- R144. -/
theorem clearTrips (h : SwitchLaw w) : SwitchLaw { w with trips := 0 } := by
  obtain ⟨timer, retries, -, delay, own⟩ := h
  exact ⟨timer, retries, Nat.zero_le _, delay, own⟩

/-- R131: demand has no part in the law of a switch in LOCKOUT. -/
theorem setDemand (h : SwitchLaw w) (hs : w.state = .lockout) (d : Bool) : SwitchLaw { w with demand := d } := by
  obtain ⟨timer, retries, trips, delay, own⟩ := h
  refine ⟨timer, retries, trips, delay, ?_⟩
  rw [hs] at own
  simpa only [hs] using own

theorem reset : SwitchLaw .reset := ⟨rfl, by decide, by decide, by decide, rfl⟩

end SwitchLaw

/-! ## All switches -/

/-- The law holds of every switch. -/
def SwitchesLaw (s : State) : Prop := ∀ n, SwitchLaw (s.switch n)

namespace SwitchesLaw

variable {s t : State} {bs : List Block}

/-- An operation that leaves the switches alone. -/
theorem within (h : SwitchesLaw s) (w : Within bs s t) (hb : .switches ∉ bs) : SwitchesLaw t :=
  fun n => (w.switch n hb).symm ▸ h n

theorem setSwitch (h : SwitchesLaw s) (n : SwIx) {w : Switch} (hw : SwitchLaw w) : SwitchesLaw (s.setSwitch n w) := by
  intro k
  rw [State.switch_setSwitch]
  split
  · exact hw
  · exact h k

/-! ## Rules and deliveries -/

theorem placeClaims (h : SwitchesLaw s) (n : RuleIx) : SwitchesLaw (s.placeClaims n) := by
  intro k
  rw [State.placeClaims_switch]
  split
  · exact (h k).addHold n
  · exact h k

theorem withdrawClaims (h : SwitchesLaw s) (n : RuleIx) : SwitchesLaw (s.withdrawClaims n) := fun k =>
  (State.withdrawClaims_switch s n k).symm ▸ (h k).dropHold n

/-- R111: a trip changes the switches only by the rule's holds. -/
theorem trip (h : SwitchesLaw s) (n : RuleIx) (res : ResultRecord) : SwitchesLaw (s.trip n res) := by
  have placed : SwitchesLaw (s.entered n).faultUpdate :=
    ((h.within (s.setRuleRt_within n _) (by decide)).placeClaims n).within (State.faultUpdate_within _) (by decide)
  exact (((placed.within (State.logTrip_within ..) (by decide)).within (State.setRuleRt_within ..) (by decide)).within
    (State.snapshotAndExit_within ..) (by decide)).within (State.setRuleRt_within ..) (by decide)

/-- R114, R116: a rule becomes CLEAR. -/
theorem clearRule (h : SwitchesLaw s) (n : RuleIx) : SwitchesLaw (s.clearRule n) :=
  (((h.within (s.setRuleRt_within n _) (by decide)).withdrawClaims n).within (State.faultUpdate_within _)
    (by decide)).within (State.occurIf_within ..) (by decide)

/-- R118: a rule becomes DISARMED. -/
theorem disarmRule (h : SwitchesLaw s) (n : RuleIx) : SwitchesLaw (s.disarmRule n) := by
  have marked : ∀ x, SwitchesLaw (s.setRuleRt n x) := fun x => h.within (s.setRuleRt_within n x) (by decide)
  unfold State.disarmRule
  dsimp only
  split
  · exact ((marked _).withdrawClaims n).within (State.faultUpdate_within _) (by decide)
  · exact marked _

theorem ruleMove {n : RuleIx} {res : ResultRecord} (h : SwitchesLaw s) (k : RuleMove n res s t) : SwitchesLaw t := by
  cases k with
  | stays => exact h
  | trips _ => exact h.trip n res
  | clears _ => exact h.clearRule n
  | moves st run _ _ _ => exact h.within (s.moveRule_within n st run) (by decide)

theorem evaluate (h : SwitchesLaw s) (a : SlotIx) (res : ResultRecord) (n : RuleIx) :
    SwitchesLaw (State.evaluate a res s n) := by
  unfold State.evaluate
  split
  · exact (h.ruleMove (s.judge_ruleMove n res)).within (State.keepPrevious_within ..) (by decide)
  · exact h

theorem deliver (h : SwitchesLaw s) (d : Delivery) : SwitchesLaw (s.deliver d) := by
  have captured : SwitchesLaw ((s.writeResult d).captureResult d.slot) :=
    (h.within (s.writeResult_within d) (by decide)).within (State.captureResult_within _ d.slot) (by decide)
  have evaluated : SwitchesLaw (State.evaluateRules _ d.slot (d.record (s.result d.slot))) :=
    List.foldlRecOn (motive := SwitchesLaw) _ _ captured fun _ ht n _ => ht.evaluate _ _ n
  exact evaluated.within (State.requestFollowers_within ..) (by decide)

theorem completion (h : SwitchesLaw s) (k : Nat) (raw : Code12) : SwitchesLaw (s.completion k raw) := by
  cases s.completion_handed k raw with
  | nothing hw => exact h.within hw (by decide)
  | delivered j _ hw => exact (h.deliver _).within hw (by decide)

theorem deadlineExpiry (h : SwitchesLaw s) : SwitchesLaw s.deadlineExpiry := by
  cases s.deadlineExpiry_handed with
  | nothing hw => exact h.within hw (by decide)
  | delivered j _ hw => exact (h.deliver _).within hw (by decide)

/-! ## Events of the switches -/

theorem currentLimit (h : SwitchesLaw s) (n : SwIx) : SwitchesLaw (s.currentLimit n) := by
  unfold State.currentLimit
  dsimp only
  split
  · next hs =>
    have limited := h.setSwitch n ((h n).limited ((s.swOut_iff n).1 hs))
    exact ((limited.within (State.occur_within ..) (by decide)).within (State.occurIf_within ..) (by decide)).within
      (State.faultUpdate_within _) (by decide)
  · exact h

theorem tick (h : SwitchesLaw s) (k : Nat) : SwitchesLaw (s.tick k) := fun n => (s.switch_tick k n).symm ▸ (h n).tick k

/-- R129: every switch is reset. -/
theorem resetAll (s : State) (c : ResetCause) (b : Bool) : SwitchesLaw (s.resetAll c b) := by
  have switch : ∀ n, (s.resetAll c b).switch n = .reset := by simp [State.resetAll, State.reset, State.switch]
  exact fun n => (switch n).symm ▸ .reset

/-! ## Commands -/

/-- R130: demand becomes ON, and the hold set decides between SOFTSTART and HELD. -/
theorem swOn (h : SwitchesLaw s) (arg : Byte) : SwitchesLaw (State.swOn arg s).state := by
  refine withIndex_state h fun n => ?_
  have ⟨retries, trips, delay⟩ := (h n).counts
  have wanted : CountsLaw { s.switch n with demand := true } := ⟨retries, trips, delay⟩
  dsimp only
  split
  · split
    · next hh => exact h.setSwitch n (wanted.enterSoftStart rfl hh)
    · next hh => exact h.setSwitch n (wanted.enterHeld rfl hh)
  all_goals exact h

/-- R131. -/
theorem swOff (h : SwitchesLaw s) (arg : Byte) : SwitchesLaw (State.swOff arg s).state := by
  refine withIndex_state h fun n => ?_
  have ⟨retries, trips, delay⟩ := (h n).counts
  have unwanted : CountsLaw { s.switch n with demand := false } := ⟨retries, trips, delay⟩
  dsimp only
  split
  · exact h
  iterate 4 exact h.setSwitch n (unwanted.enterOff rfl)
  · next hs =>
    split
    · exact h.setSwitch n ((h n).setDemand hs false)
    · exact h

/-- R132: the budget that is restored is the maximum. -/
theorem swClear (h : SwitchesLaw s) (arg : Byte) : SwitchesLaw (State.swClear arg s).state := by
  refine withIndex_state h fun n => ?_
  have ⟨_, trips, delay⟩ := (h n).counts
  have cleared : CountsLaw { s.switch n with demand := false, retries := (s.switch n).cfg.retryMax.toNat } :=
    ⟨le_rfl, trips, delay⟩
  dsimp only
  split
  · exact (h.setSwitch n (cleared.enterOff rfl)).within (State.faultUpdate_within _) (by decide)
  · exact h

theorem ack (h : SwitchesLaw s) (arg : Byte) : SwitchesLaw (State.ack arg s).state := by
  refine withIndex_state h fun n => ?_
  split
  · exact h
  · split
    · exact h.clearRule n
    iterate 2 exact h.within (s.setRuleRt_within n _) (by decide)
    all_goals exact h

theorem disarm (h : SwitchesLaw s) (arg : Byte) : SwitchesLaw (State.disarm arg s).state := by
  refine withIndex_state h fun n => ?_
  split
  · exact h
  · split
    · exact h
    all_goals exact h.disarmRule n

end SwitchesLaw

end Sys2Proof.Safety

namespace Sys2Proof.Machine

open Sys2Proof.Safety

theorem Command.effect_switchesLaw (c : Command) (arg : Byte) (s : State) (hc : c ≠ .softReset) (h : SwitchesLaw s) :
    SwitchesLaw (c.effect arg s).state := by
  by_cases hw : Block.switches ∈ commandBlocks c
  · cases c
    case softReset => exact absurd rfl hc
    case swOn => exact h.swOn arg
    case swOff => exact h.swOff arg
    case swClear => exact h.swClear arg
    case ack => exact h.ack arg
    case disarm => exact h.disarm arg
    all_goals exact absurd hw (by decide)
  · exact h.within (c.effect_within arg s hc) hw

theorem Reg.writeEffect_switchesLaw (r : Reg) (d : Word) (f : State → State) (s : State) (hf : r.writeEffect d = some f)
    (h : SwitchesLaw s) : SwitchesLaw (f s) := by
  have hw := r.writeEffect_within d f s hf
  cases r <;> simp only [writeBlocks] at hw
  case swCfg n =>
    cases hf
    exact (h.setSwitch n ((h n).writeCfg d)).within (State.faultUpdate_within _) (by decide)
  case swTrips n =>
    cases hf
    exact h.setSwitch n (h n).clearTrips
  all_goals exact h.within hw (by decide)

theorem kept_switchesLaw : Kept SwitchesLaw where
  quiet k h := h.within k.within (by decide)
  command c arg s hc := c.effect_switchesLaw arg s hc
  write r d f s hf := r.writeEffect_switchesLaw d f s hf
  captureTime s h := h.within s.captureTime_within (by decide)
  captureEntry s h := h.within s.captureEntry_within (by decide)
  captureJob s h := h.within s.captureJob_within (by decide)
  captureFault s h := h.within s.captureFault_within (by decide)
  resetAll s c b _ := .resetAll s c b
  resetEnd s h := h.within (s.setTriggers_within _) (by decide)
  completion s k raw h := h.completion k raw
  deadlineExpiry s h := h.deadlineExpiry
  tick s k h := h.tick k
  periodicExpiry s n h := h.within (s.periodicExpiry_within n) (by decide)
  edge s pin l h := h.within (s.edge_within pin l) (by decide)
  pointReached s c h := h.within (s.pointReached_within c) (by decide)
  periodEnd s c h := h.within (s.periodEnd_within c) (by decide)
  dutyEnd s c h := h.within (s.dutyEnd_within c) (by decide)
  softStartExpiry s n h := h.setSwitch n (h n).softStartExpiry
  refillExpiry s n h := h.setSwitch n (h n).refillExpiry
  retryExpiry s n h := h.setSwitch n (h n).retryExpiry
  currentLimit s n h := h.currentLimit n

/-- Settles O58: every part of a step keeps the law of each switch. A switch enters a state only with the demand and the
hold set that the law gives the state, and starts the timer of that state with the entry. -/
theorem switchLawKept : Obligations.SwitchLawKept :=
  fun _ _ hs ht => kept_switchesLaw.step hs ht

end Sys2Proof.Machine
end

section
/-! PROOF. The commands of the switches (R130 to R132), the expiries of their timers, and a current-limit event (R133 to
R137). -/

namespace Sys2Proof.Machine

open Sys2Proof.Safety

namespace State

variable {s t : State} {arg : Byte} {r : ResultCode}

theorem exec_swOn (hr : Ready s) (h : swOn arg s = .result t r) : exec (.swOn arg) s = .next (finished t 0x40 arg r) :=
  congrArg Host.Outcome.next (hostCommand_finished (c := .swOn) hr h)

theorem exec_swOff (hr : Ready s) (h : swOff arg s = .result t r) : exec (.swOff arg) s = .next (finished t 0x41 arg r) :=
  congrArg Host.Outcome.next (hostCommand_finished (c := .swOff) hr h)

theorem exec_swClear (hr : Ready s) (h : swClear arg s = .result t r) :
    exec (.swClear arg) s = .next (finished t 0x42 arg r) :=
  congrArg Host.Outcome.next (hostCommand_finished (c := .swClear) hr h)

end State

/-- Settles O42: each command by its argument, then by the state of the switch, and within OFF by the hold set, within
LOCKOUT by the demand. -/
theorem switchCommands : Obligations.SwitchCommands := by
  refine ⟨fun s b hr hb => ⟨?_, ?_, ?_⟩, fun s n hr => ⟨?on, ?off, ?clear⟩⟩
  · exact State.exec_swOn hr (withIndex_ge hb)
  · exact State.exec_swOff hr (withIndex_ge hb)
  · exact State.exec_swClear hr (withIndex_ge hb)
  case on =>
    have effect : State.swOn (num 8 n) s = _ := withIndex_num (by decide) n
    cases hs : (s.switch n).state
    case off =>
      by_cases hh : (s.switch n).holds = 0#16
      · exact State.exec_swOn hr (effect.trans (by simp [hs, hh, Switch.enterSoftStart_eq]))
      · exact State.exec_swOn hr (effect.trans (by simp [hs, hh, Switch.enterIdle]))
    all_goals exact State.exec_swOn hr (effect.trans (by simp [hs]))
  case off =>
    have effect : State.swOff (num 8 n) s = _ := withIndex_num (by decide) n
    cases hs : (s.switch n).state
    case lockout =>
      cases hd : (s.switch n).demand <;> exact State.exec_swOff hr (effect.trans (by simp [hs, hd]))
    all_goals exact State.exec_swOff hr (effect.trans (by simp [hs, Switch.enterIdle]))
  case clear =>
    have effect : State.swClear (num 8 n) s = _ := withIndex_num (by decide) n
    by_cases hs : (s.switch n).state = .lockout
    · exact (State.exec_swClear hr (effect.trans (if_pos hs))).trans (by rw [if_pos hs]; rfl)
    · exact (State.exec_swClear hr (effect.trans (if_neg hs))).trans (by rw [if_neg hs])

/-! ## Expiries and current limit -/

/-- A switch that may stay as it is. -/
theorem State.setSwitch_ite (s : State) (n : SwIx) (c : Prop) [Decidable c] (w : Switch) :
    s.setSwitch n (if c then w else s.switch n) = if c then s.setSwitch n w else s := by
  rw [apply_ite (s.setSwitch n), s.setSwitch_self]

/-- An expiry row changes a switch in `st` whose timer of kind `k` has run out, and no other. -/
theorem State.setSwitch_due (s : State) (n : SwIx) (st : SwitchState) (k : TimerKind) (w : Switch) :
    s.setSwitch n (if (s.switch n).state = st ∧ (s.switch n).due k then w else s.switch n) =
      if (s.switch n).state = st ∧ (s.switch n).timer = some ⟨k, 0⟩ then s.setSwitch n w else s := by
  rw [s.setSwitch_ite]
  exact if_congr (and_congr_right' ((s.switch n).due_iff k)) rfl rfl

/-- R136: a current-limit event with no retry left. -/
theorem State.currentLimit_lockout {s : State} {n : SwIx} (h : s.swOut n = true) (hr : (s.switch n).retries = 0) :
    s.currentLimit n =
      (((s.setSwitch n (s.switch n).limited).occur .switchIlim).occur .switchLockout).faultUpdate := by
  simp [currentLimit, h, hr, occurIf]

/-- R136: a current-limit event with a retry left. -/
theorem State.currentLimit_retry {s : State} {n : SwIx} (h : s.swOut n = true) (hr : (s.switch n).retries ≠ 0) :
    s.currentLimit n = ((s.setSwitch n (s.switch n).limited).occur .switchIlim).faultUpdate := by
  simp [currentLimit, h, hr, occurIf]

/-- R137. -/
theorem State.currentLimit_off {s : State} {n : SwIx} (h : ¬s.swOut n = true) : s.currentLimit n = s := if_neg h

/-- Settles O43: each expiry by whether its timer has run out, and a current-limit event by the output and the retries. -/
theorem switchEvents : Obligations.SwitchEvents := by
  refine ⟨fun s n => ⟨?soft, ?refill, ?retry⟩, fun s n => ⟨fun hs => ?limit, fun hs => ?none⟩, State.swOut_iff⟩
  case soft => exact congrArg Host.Outcome.next (s.setSwitch_due n .softstart .softStart _)
  case refill => exact congrArg Host.Outcome.next (s.setSwitch_due n .on .refill _)
  case retry =>
    rw [← (s.switch n).enterSoftStart_eq]
    exact congrArg Host.Outcome.next (s.setSwitch_due n .ilimWait .retry _)
  case limit =>
    have out := (s.swOut_iff n).2 hs
    refine congrArg Host.Outcome.next ?_
    rw [Nat.min_comm]
    split
    · next hr => exact (State.currentLimit_lockout out hr).trans (by rw [Switch.limited_lockout _ hr, satInc])
    · next hr => exact (State.currentLimit_retry out hr).trans (by rw [Switch.limited_retry _ hr, satInc])
  case none =>
    refine congrArg Host.Outcome.next (State.currentLimit_off fun out => ?_)
    obtain hx | hx := (s.swOut_iff n).1 out <;> rw [hx] at hs <;> simp at hs

end Sys2Proof.Machine
end

section
/-! PROOF. Holds, caps and forces that arrive and leave, and what a channel shows of them (R139, R140, R155 to R157,
R161). -/

namespace Sys2Proof.Machine

open Sys2Proof.Safety

/-! ## The smallest cap and the rules with a cap (R161) -/

namespace Channel

theorem capped_le (d v : Word) : (capped d v).toNat ≤ d.toNat ∧ (capped d v).toNat ≤ v.toNat := by
  unfold capped
  split <;> omega

theorem capped_eq_or (d v : Word) : capped d v = d ∨ capped d v = v := by
  unfold capped
  split
  · exact .inr rfl
  · exact .inl rfl

/-- A duty under a list of caps becomes the smallest of the caps and itself. -/
theorem foldl_capped (l : List (RuleIx × Word)) (d : Word) :
    let m := l.foldl (fun d c => capped d c.2) d
    (m = d ∨ ∃ q, (q, m) ∈ l) ∧ m.toNat ≤ d.toNat ∧ ∀ q w, (q, w) ∈ l → m.toNat ≤ w.toNat := by
  induction l generalizing d with
  | nil => exact ⟨.inl rfl, le_rfl, nofun⟩
  | cons c l ih =>
    obtain ⟨q, v⟩ := c
    obtain ⟨among, le, least⟩ := ih (capped d v)
    have ⟨le_d, le_v⟩ := capped_le d v
    refine ⟨?_, le.trans le_d, fun p w hw => ?_⟩
    · obtain hm | ⟨p, hp⟩ := among
      · exact (capped_eq_or d v).imp hm.trans fun hv => ⟨q, List.mem_cons.2 (.inl (congrArg (Prod.mk q) (hm.trans hv)))⟩
      · exact .inr ⟨p, .tail _ hp⟩
    · obtain hw | hw := List.mem_cons.1 hw
      · cases hw
        exact le.trans le_v
      · exact least p w hw

variable (x : Channel) (r : RuleIx)

theorem capMin_nil (h : x.caps = []) : x.capMin = 0 := by rw [capMin, h]

/-- R161: the smallest cap is one of the list. -/
theorem capMin_least (h : x.caps ≠ []) :
    (∃ q, (q, x.capMin) ∈ x.caps) ∧ ∀ q w, (q, w) ∈ x.caps → x.capMin.toNat ≤ w.toNat := by
  unfold capMin
  cases hl : x.caps with
  | nil => exact absurd hl h
  | cons c l =>
    obtain ⟨q, v⟩ := c
    obtain ⟨among, le, least⟩ := foldl_capped l v
    refine ⟨?_, fun p w hw => ?_⟩
    · obtain hm | ⟨p, hp⟩ := among
      · exact ⟨q, List.mem_cons.2 (.inl (congrArg (Prod.mk q) hm))⟩
      · exact ⟨p, .tail _ hp⟩
    · obtain hw | hw := List.mem_cons.1 hw
      · cases hw
        exact le
      · exact least p w hw

theorem getLsbD_foldl_ruleBit (l : List (RuleIx × Word)) (m : BitVec 16) :
    (l.foldl (fun m c => m ||| ruleBit c.1) m).getLsbD r = true ↔ m.getLsbD r = true ∨ ∃ w, (r, w) ∈ l := by
  induction l generalizing m with
  | nil => simp
  | cons c l ih =>
    obtain ⟨q, v⟩ := c
    rw [List.foldl_cons, ih, getLsbD_or_ruleBit]
    simp [or_assoc, exists_or]

/-- R161: PWM_CAPSET marks the rules with a cap. -/
theorem getLsbD_capSet : x.capSet.getLsbD r = true ↔ ∃ w, (r, w) ∈ x.caps := by
  rw [capSet, getLsbD_foldl_ruleBit]
  simp

/-! ## Caps and forces -/

/-- R155: a cap lowers the duty of a running channel that is above it. -/
theorem addCap_eq (v : Word) : x.addCap r v = { x with
    caps := x.caps ++ [(r, v)], duty := if x.running = true ∧ v.toNat < x.duty.toNat then v else x.duty } := by
  rw [addCap, capped, ite_and]

end Channel

/-- Settles O44: a hold by the state of the switch and its hold set, a cap and a force as they change a channel, and the two
words as folds over the cap list. -/
theorem claimsArrive : Obligations.ClaimsArrive := by
  refine ⟨fun w r => ⟨w.addHold_eq r, ?_⟩,
    fun x r v => ⟨x.addCap_eq r v, rfl, rfl, x.capMin_nil, x.capMin_least, x.getLsbD_capSet r⟩⟩
  rw [w.dropHold_eq, Switch.enterSoftStart_eq]
  rfl

end Sys2Proof.Machine
end

section
/-! PROOF. Writes of the switch and PWM registers, and the words these registers show (R143, R144, R146, R152 to R154,
R161). -/

namespace Sys2Proof.Machine

open Sys2Proof.Safety

/-! ## Words -/

@[simp] theorem RestorePolicy.toNat_code (x : RestorePolicy) :
    x.code.toNat = [RestorePolicy.manual, .auto].idxOf x := by cases x <;> rfl

@[simp] theorem SwitchState.toNat_code (x : SwitchState) : x.code.toNat = switchStates.idxOf x := by cases x <;> rfl

@[simp] theorem PwmPolarity.toNat_code (x : PwmPolarity) :
    x.code.toNat = [PwmPolarity.activeHigh, .activeLow].idxOf x := by cases x <;> rfl

theorem switchWords (s : State) (n : SwIx) : SwitchWords s n where
  cfg := by
    rw [shows, Reg.value, SwitchConfig.word]
    repeat rw [toNat_join]
    simp
    omega
  state h := by
    rw [shows, Reg.value, Switch.stateWord]
    repeat rw [toNat_join]
    simp [bne, beq_eq_decide]
    omega
  hold _ := rfl
  trips h := by
    simp [shows, Reg.value]
    omega

theorem pwmWords (s : State) (c : ChIx) : PwmWords s c where
  ctrl := by
    rw [shows, Reg.value, ChannelConfig.ctrlWord]
    repeat rw [toNat_join]
    simp
  pending := ⟨rfl, rfl, rfl⟩
  state h := by
    rw [shows, Reg.value, Channel.stateWord]
    repeat rw [toNat_join]
    simp [bne, beq_eq_decide]
    omega
  applied := rfl
  noCap h := (s.channel c).capMin_nil h
  capMin h := (s.channel c).capMin_least h
  capSet r := (s.channel c).getLsbD_capSet r
  force _ := rfl

/-! ## Writes -/

namespace State

variable {s t : State} {d : Word}

/-- The write rows of a switch, from what their effects leave. -/
theorem exec_swCfgWrite {n : SwIx} (hr : Ready s) (h : writeSwCfg n d s = t) :
    exec (.swCfgWrite n d) s = .next (answered t (ofSwitch 0x60 n) d) :=
  congrArg Host.Outcome.next ((hostWrite_answered hr _ d _).trans (by rw [h, (swAddr_eq n).1]))

theorem exec_swTripsWrite {n : SwIx} (hr : Ready s) (h : clearSwTrips n s = t) :
    exec (.swTripsWrite n d) s = .next (answered t (ofSwitch 0x63 n) d) :=
  congrArg Host.Outcome.next ((hostWrite_answered hr _ d _).trans (by rw [h, (swAddr_eq n).2]))

/-- The write rows of a channel, from what their effects leave. -/
theorem exec_pwmCtrlWrite {c : ChIx} (hr : Ready s) (h : writePwmCtrl c d s = t) :
    exec (.pwmCtrlWrite c d) s = .next (answered t (ofChannel 0x80 c) d) :=
  congrArg Host.Outcome.next ((hostWrite_answered hr _ d _).trans (by rw [h, pwmAddr_ctrl]))

theorem exec_pwmConfigWrite {c : ChIx} {r : PwmReg} (hr : Ready s) (h : writePwmConfig c r d s = t) :
    exec (.pwmConfigWrite c r d) s = .next (answered t (ofChannel (pendingBase r) c) d) :=
  congrArg Host.Outcome.next ((hostWrite_answered hr _ d _).trans (by rw [h, pwmAddr_config]))

theorem setChannel_self (s : State) (c : ChIx) : s.setChannel c (s.channel c) = s := by simp [setChannel, channel]

/-- A channel written and then stopped is written stopped. -/
theorem setChannel_stop (s : State) (c : ChIx) (x : Channel) :
    (s.setChannel c x).setChannel c ((s.setChannel c x).channel c).stop = s.setChannel c x.stop := by
  rw [channel_setChannel, if_pos rfl]
  simp [setChannel]

/-- R152: a period of 0 or 1 is set aside. -/
theorem writePwmConfig_period (s : State) (c : ChIx) (d : Word) : writePwmConfig c .period d s =
    s.setChannel c { s.channel c with cfg := { (s.channel c).cfg with
      period := if d.toNat ≤ 1 then (s.channel c).cfg.period else d } } := by
  rw [writePwmConfig]
  by_cases hd : d.toNat ≤ 1
  · rw [if_pos (Nat.lt_succ_of_le hd), if_pos hd]
    exact (s.setChannel_self c).symm
  · rw [if_neg fun h => hd (Nat.le_of_lt_succ h), if_neg hd]

/-- R153, R154: the stored enable starts a stopped channel in ACTIVE, and stops a running one. -/
theorem writePwmCtrl_eq (s : State) (c : ChIx) (d : Word) :
    let x := s.channel c
    let cfg : ChannelConfig := { x.cfg with
      enable := d.getLsbD 0, polarity := if d.getLsbD 1 then .activeLow else .activeHigh }
    let t := s.setChannel c { x with cfg := cfg }
    writePwmCtrl c d s =
      if d.getLsbD 0 = true ∧ x.running = false ∧ s.mode.mode = .active then t.startPeriod c
      else if d.getLsbD 0 = false ∧ x.running = true then
        s.setChannel c { x with cfg := cfg, running := false, position := 0, duty := 0, trigDone := false, owed := 0 }
      else t := by
  unfold writePwmCtrl
  dsimp only
  split
  · next he hx => simp only [he, hx, true_and, reduceCtorEq, false_and, if_false]
  · next he hx =>
    simp only [he, hx, setChannel_stop, reduceCtorEq, false_and, if_false, and_self, if_true]
    rfl
  iterate 2 next he hx => simp only [he, hx, reduceCtorEq, false_and, and_false, if_false]

end State

/-- Settles O45: each write as what its effect leaves, and each word put together from its fields. -/
theorem outputWrites : Obligations.OutputWrites := by
  refine ⟨fun s n d hr => ⟨State.exec_swCfgWrite hr rfl, State.exec_swTripsWrite hr rfl⟩, fun s c d hr => ?_,
    fun s => ⟨switchWords s, pwmWords s⟩⟩
  exact ⟨State.exec_pwmCtrlWrite hr (s.writePwmCtrl_eq c d), State.exec_pwmConfigWrite hr (s.writePwmConfig_period c d),
    State.exec_pwmConfigWrite hr rfl, State.exec_pwmConfigWrite hr rfl⟩

end Sys2Proof.Machine
end

section
/-! PROOF. Every step keeps the law of the PWM channels (R148, R149, R154, R160). -/

namespace Sys2Proof.Machine

open Sys2Proof.Safety

namespace Channel

variable (x : Channel) (d : Word)

/-! ## The restrained duty (R151 step 3) -/

theorem restrained_of_forced (h : x.forces ≠ 0) : x.restrained d = 0 := if_neg h

/-- Without a force it is the smallest of the duty and the caps. -/
theorem restrained_of_unforced (h : x.forces = 0) :
    (x.restrained d = d ∨ ∃ r, (r, x.restrained d) ∈ x.caps) ∧ (x.restrained d).toNat ≤ d.toNat ∧
      ∀ r v, (r, v) ∈ x.caps → (x.restrained d).toNat ≤ v.toNat := by
  rw [restrained, if_pos h]
  exact foldl_capped x.caps d

theorem restrained_le_cap {c : RuleIx × Word} (hc : c ∈ x.caps) : (x.restrained d).toNat ≤ c.2.toNat := by
  by_cases h : x.forces = 0
  · obtain ⟨-, -, least⟩ := x.restrained_of_unforced d h
    exact least c.1 c.2 hc
  · rw [x.restrained_of_forced d h]
    exact Nat.zero_le _

/-- Only a running channel has events. -/
theorem running_of_reaches {p : Nat} (h : x.reaches p = true) : x.running = true := by
  simp only [reaches, Bool.and_eq_true] at h
  exact h.1.1

end Channel

/-! ## Whole channels written one after another -/

namespace State

variable (s : State) (c : ChIx) (x y : Channel)

theorem setChannel_setChannel : (s.setChannel c x).setChannel c y = s.setChannel c y := by simp [setChannel]

/-- R151: the period that starts on a channel just written. -/
theorem startPeriod_setChannel : (s.setChannel c x).startPeriod c = (s.setChannel c x.start).pointAtStart c := by
  rw [startPeriod, setChannel_setChannel, channel_setChannel, if_pos rfl]

theorem channel_startChannels :
    s.startChannels.channel c = if (s.channel c).cfg.enable then (s.channel c).start else s.channel c := tabulate_get ..

theorem channel_stopChannels :
    s.stopChannels.channel c = if (s.channel c).running then (s.channel c).stop else s.channel c := tabulate_get ..

end State

end Sys2Proof.Machine

namespace Sys2Proof.Safety

open Sys2Proof.Machine

/-! ## One channel -/

namespace ChannelLaw

variable {x : Channel}

/-- A running channel's position moves within its period; time owed and the mark of the trigger point are free. -/
theorem move (h : ChannelLaw x) (hr : x.running = true) {p : Nat} (hp : p < x.period.toNat) (owed : Nat) (done : Bool) :
    ChannelLaw { x with position := p, owed := owed, trigDone := done } := by
  obtain ⟨pending, period, -, caps, forces, -⟩ := h
  exact ⟨pending, period, hp, caps, forces, fun hs => nomatch hr.symm.trans hs⟩

theorem position_lt (h : ChannelLaw x) : x.position < x.period.toNat := by
  obtain ⟨-, -, below, -⟩ := h
  exact below

theorem owe (h : ChannelLaw x) (hr : x.running = true) (k : Nat) : ChannelLaw { x with owed := k } :=
  h.move hr h.position_lt k x.trigDone

theorem catchUp (h : ChannelLaw x) (hr : x.running = true) : ChannelLaw x.catchUp :=
  h.move hr (x.catchUp_position_lt h.position_lt) _ x.trigDone

/-- R151: time that passes. -/
theorem tick (h : ChannelLaw x) (k : Nat) : ChannelLaw (x.tick k) := by
  unfold Channel.tick
  split
  · next hr => exact (h.owe hr _).catchUp hr
  · exact h

/-- R151: the new period is the pending one, and its duty is restrained. -/
theorem start (h : ChannelLaw x) : ChannelLaw x.start := by
  obtain ⟨pending, -⟩ := h
  exact ⟨pending, pending, Nat.zero_lt_of_lt pending, fun _ hc => x.restrained_le_cap x.cfg.duty hc,
    x.restrained_of_forced x.cfg.duty, nofun⟩

/-- R154. -/
theorem stop (h : ChannelLaw x) : ChannelLaw x.stop := by
  obtain ⟨pending, period, -⟩ := h
  exact ⟨pending, period, Nat.zero_lt_of_lt period, fun _ _ => Nat.zero_le _, fun _ => rfl,
    fun _ => ⟨rfl, rfl, rfl, rfl⟩⟩

/-- R152: pending values are free but for the period. -/
theorem setCfg (h : ChannelLaw x) {cfg : ChannelConfig} (hp : 2 ≤ cfg.period.toNat) :
    ChannelLaw { x with cfg := cfg } := by
  obtain ⟨-, applied⟩ := h
  exact ⟨hp, applied⟩

/-- R155: the cap that arrives lowers a running channel's duty; a stopped channel's duty is 0 already. -/
theorem addCap (h : ChannelLaw x) (r : RuleIx) (v : Word) : ChannelLaw (x.addCap r v) := by
  obtain ⟨pending, period, below, caps, forces, stopped⟩ := h
  have lowered : (x.addCap r v).duty.toNat ≤ x.duty.toNat ∧ (x.addCap r v).duty.toNat ≤ v.toNat := by
    unfold Channel.addCap
    cases hr : x.running with
    | true => exact Channel.capped_le x.duty v
    | false =>
      obtain ⟨-, duty, -⟩ := stopped hr
      exact ⟨le_rfl, by simp [duty]⟩
  obtain ⟨le_duty, le_cap⟩ := lowered
  have zero : x.duty = 0 → (x.addCap r v).duty = 0 := fun hd => by
    rw [hd] at le_duty
    exact BitVec.eq_of_toNat_eq (Nat.le_zero.1 le_duty)
  refine ⟨pending, period, below, fun c hc => ?_, fun hf => zero (forces hf), fun hs => ?_⟩
  · obtain hc | hc := List.mem_append.1 hc
    · exact le_duty.trans (caps c hc)
    · rwa [List.mem_singleton.1 hc]
  · obtain ⟨position, duty, rest⟩ := stopped hs
    exact ⟨position, zero duty, rest⟩

/-- R156: a force that arrives makes the duty 0. -/
theorem addForce (h : ChannelLaw x) (r : RuleIx) : ChannelLaw (x.addForce r) := by
  obtain ⟨pending, period, below, caps, -, stopped⟩ := h
  have zero : (x.addForce r).duty = 0 := by
    unfold Channel.addForce
    cases hr : x.running with
    | true => rfl
    | false =>
      obtain ⟨-, duty, -⟩ := stopped hr
      exact duty
  refine ⟨pending, period, below, fun _ _ => ?_, fun _ => zero, fun hs => ?_⟩
  · rw [zero]
    exact Nat.zero_le _
  · obtain ⟨position, -, rest⟩ := stopped hs
    exact ⟨position, zero, rest⟩

/-- R157: fewer restraints, and the duty as it was. -/
theorem dropRule (h : ChannelLaw x) (r : RuleIx) : ChannelLaw (x.dropRule r) := by
  obtain ⟨pending, period, below, caps, forces, stopped⟩ := h
  have forced : (x.dropRule r).forces ≠ 0 → x.forces ≠ 0 := fun hf h0 => hf (by simp [Channel.dropRule, h0])
  exact ⟨pending, period, below, fun c hc => caps c (List.mem_of_mem_filter hc), fun hf => forces (forced hf), stopped⟩

theorem reset : ChannelLaw .reset :=
  ⟨by decide, by decide, by decide, nofun, fun _ => rfl, fun _ => ⟨rfl, rfl, rfl, rfl⟩⟩

end ChannelLaw

/-- The law of one channel where the part is in mode `m`. -/
structure ChannelLawIn (m : Mode) (x : Channel) : Prop where
  law : ChannelLaw x
  runs : x.running = (x.cfg.enable && (m == .active))

namespace ChannelLawIn

variable {m : Mode} {x : Channel}

/-- R151, R154: an enabled channel that starts in ACTIVE. -/
theorem of_start (h : ChannelLaw x) (he : x.cfg.enable = true) (hm : m = .active) : ChannelLawIn m x.start := by
  subst hm
  exact ⟨h.start, he.symm.trans (Bool.and_true _).symm⟩

/-- R154: a channel that stops as it is disabled. -/
theorem of_stop (h : ChannelLaw x) {cfg : ChannelConfig} (hp : 2 ≤ cfg.period.toNat) (he : cfg.enable = false) :
    ChannelLawIn m (Channel.stop { x with cfg := cfg }) :=
  ⟨(h.setCfg hp).stop, (congrArg (· && _) he).symm⟩

/-- R160: a GUARD exit starts every enabled channel. -/
theorem started (h : ChannelLawIn m x) : ChannelLawIn .active (if x.cfg.enable then x.start else x) := by
  split
  · next he => exact .of_start h.law he rfl
  · next he => exact ⟨h.law, by simp [h.runs, he]⟩

/-- R160: GUARD entry stops every running channel. -/
theorem stopped (h : ChannelLawIn m x) : ChannelLawIn .guard (if x.running then x.stop else x) := by
  split
  · exact ⟨h.law.stop, (Bool.and_false _).symm⟩
  · next hr => exact ⟨h.law, (Bool.eq_false_iff.2 hr).trans (Bool.and_false _).symm⟩

/-- R154: an enable that is stored without a start or a stop agrees with whether the channel runs. -/
theorem store (h : ChannelLawIn m x) {cfg : ChannelConfig} (hp : 2 ≤ cfg.period.toNat)
    (start : ¬(cfg.enable = true ∧ x.running = false ∧ m = .active)) (stop : ¬(cfg.enable = false ∧ x.running = true)) :
    ChannelLawIn m { x with cfg := cfg } := by
  refine ⟨h.law.setCfg hp, ?_⟩
  cases m with
  | guard => exact h.runs.trans ((Bool.and_false _).trans (Bool.and_false _).symm)
  | active =>
    cases he : cfg.enable with
    | true => simpa [he] using start
    | false => simpa [he] using stop

/-- R111: the force and the cap of a rule that trips. -/
theorem restrain (h : ChannelLawIn m x) (r : WatchRecord) (n : RuleIx) (c : ChIx) :
    ChannelLawIn m (r.restrain n c x) := by
  have forced : ChannelLawIn m (if r.forceMask.getLsbD c then x.addForce n else x) := by
    split
    · exact ⟨h.law.addForce n, h.runs⟩
    · exact h
  unfold WatchRecord.restrain
  dsimp only
  split
  · split
    · exact ⟨forced.law.addCap n _, forced.runs⟩
    · exact forced
  · exact forced

theorem tick (h : ChannelLawIn m x) (k : Nat) : ChannelLawIn m (x.tick k) := by
  refine ⟨h.law.tick k, ?_⟩
  unfold Channel.tick
  split <;> exact h.runs

end ChannelLawIn

/-! ## All channels -/

/-- The law holds of every channel in the part's mode. -/
def ChannelsLaw (s : State) : Prop := ∀ c, ChannelLawIn s.mode.mode (s.channel c)

theorem pwmLaw_iff {s : State} : PwmLaw s ↔ ChannelsLaw s :=
  forall_congr' fun _ => ⟨fun ⟨law, runs⟩ => ⟨law, runs⟩, fun ⟨law, runs⟩ => ⟨law, runs⟩⟩

namespace ChannelsLaw

variable {s t : State} {bs : List Block}

/-- An operation that leaves the channels and the mode alone. -/
theorem within (h : ChannelsLaw s) (w : Within bs s t) (hb : ∀ b ∈ [Block.pwm, .mode], b ∉ bs) : ChannelsLaw t := by
  intro c
  rw [w.channel c (hb _ (by simp)), w.mode (hb _ (by simp))]
  exact h c

theorem setChannel (h : ChannelsLaw s) {c : ChIx} {x : Channel} (hx : ChannelLawIn s.mode.mode x) :
    ChannelsLaw (s.setChannel c x) := by
  intro d
  rw [State.channel_setChannel]
  split
  · exact hx
  · exact h d

/-! ## Events and writes of a channel -/

theorem tick (h : ChannelsLaw s) (k : Nat) : ChannelsLaw (s.tick k) := fun c => (s.channel_tick k c).symm ▸ (h c).tick k

/-- R151: the period that starts is that of a running channel. -/
theorem periodEnd (h : ChannelsLaw s) (c : ChIx) : ChannelsLaw (s.periodEnd c) := by
  unfold State.periodEnd
  dsimp only
  split
  · next hx =>
    have running := (s.channel c).running_of_reaches hx
    refine within (s := s.setChannel c _) ?_ (State.pointAtStart_within ..) (by decide)
    exact h.setChannel ⟨((h c).law.start.owe rfl _).catchUp rfl, running.symm.trans (h c).runs⟩
  · exact h

/-- R151: the pulse ends within the period. -/
theorem dutyEnd (h : ChannelsLaw s) (c : ChIx) : ChannelsLaw (s.dutyEnd c) := by
  unfold State.dutyEnd
  dsimp only
  split
  · next hx =>
    obtain ⟨ahead, reached⟩ := hx
    have running := (s.channel c).running_of_reaches reached
    obtain ⟨-, inside⟩ := (Channel.dutyAhead_iff _).1 ahead
    exact h.setChannel ⟨((h c).law.move running inside _ _).catchUp running, (h c).runs⟩
  · exact h

/-- R159: the trigger point lies within the period. -/
theorem pointReached (h : ChannelsLaw s) (c : ChIx) : ChannelsLaw (s.pointReached c) := by
  unfold State.pointReached
  dsimp only
  split
  · next hx =>
    obtain ⟨ahead, reached⟩ := hx
    have running := (s.channel c).running_of_reaches reached
    obtain ⟨-, inside⟩ := (Channel.trigAhead_iff _).1 ahead
    refine within (s := s.setChannel c _) ?_ (State.triggerPoint_within ..) (by decide)
    exact h.setChannel ⟨((h c).law.move running inside _ true).catchUp running, (h c).runs⟩
  · exact h

/-- R152: a period of 0 or 1 is set aside. -/
theorem writePwmConfig (h : ChannelsLaw s) (c : ChIx) (r : PwmReg) (d : Word) :
    ChannelsLaw (State.writePwmConfig c r d s) := by
  obtain ⟨law, runs⟩ := h c
  have ⟨pending, _⟩ := law
  unfold State.writePwmConfig
  cases r with
  | period =>
    dsimp only
    split
    · exact h
    · next hd => exact h.setChannel ⟨law.setCfg (Nat.le_of_not_lt hd), runs⟩
  | duty | trig => exact h.setChannel ⟨law.setCfg pending, runs⟩

/-- R154: the enable acts at once, but in GUARD a set enable is only stored. -/
theorem writePwmCtrl (h : ChannelsLaw s) (c : ChIx) (d : Word) : ChannelsLaw (State.writePwmCtrl c d s) := by
  have law := (h c).law
  have ⟨pending, _⟩ := law
  rw [State.writePwmCtrl_eq]
  split
  · next hw =>
    obtain ⟨enable, -, active⟩ := hw
    rw [State.startPeriod_setChannel]
    refine within (s := s.setChannel c _) ?_ (State.pointAtStart_within ..) (by decide)
    exact h.setChannel (.of_start (law.setCfg pending) enable active)
  · next start =>
    split
    · next hw =>
      obtain ⟨disable, -⟩ := hw
      exact h.setChannel (.of_stop law pending disable)
    · next stop => exact h.setChannel ((h c).store pending start stop)

/-! ## Mode changes (R160) -/

theorem enterGuard (h : ChannelsLaw s) : ChannelsLaw s.enterGuard := by
  have entered : ChannelsLaw s.guardEntered := fun c => by
    rw [State.guardEntered, State.channel_stopChannels]
    exact (h c).stopped
  rw [s.enterGuard_eq]
  exact entered.within (State.guardAbort_within _) (by decide)

theorem leaveGuard (h : ChannelsLaw s) (e : ExitCause) : ChannelsLaw (s.leaveGuard e) := by
  have left : ChannelsLaw
      ((s.setMode { s.mode with mode := .active, lastExit := e }).occur .guardLeft).thawCountdowns.startChannels :=
    fun c => by
      rw [State.channel_startChannels]
      exact (h c).started
  exact left.within (State.takeAllReleased_within ..) (by decide)

theorem wakeExit (h : ChannelsLaw s) (n : RuleIx) : ChannelsLaw (s.wakeExit n) := by
  unfold State.wakeExit
  split
  · exact h.leaveGuard _
  · exact h

/-- R111: the request and the exit of a trip, in either order. -/
theorem snapshotAndExit (h : ChannelsLaw s) (n : RuleIx) : ChannelsLaw (s.snapshotAndExit n) := by
  have irq : ∀ {t : State} b, ChannelsLaw t → ChannelsLaw (t.occurIf b .watchTrip) := fun b ht =>
    ht.within (State.occurIf_within ..) (by decide)
  have request : ∀ {t : State}, ChannelsLaw t → ChannelsLaw (t.snapshotRequest n) := fun ht =>
    ht.within (State.snapshotRequest_within ..) (by decide)
  have used : ChannelsLaw s.useChoice := h.within s.useChoice_within (by decide)
  unfold State.snapshotAndExit
  dsimp only
  split
  · split
    · split
      · exact (irq _ (request used)).wakeExit n
      · exact request ((irq _ used).wakeExit n)
    · exact (irq _ h).wakeExit n
  · exact irq _ (request h)

/-! ## Rules and deliveries -/

theorem placeClaims (h : ChannelsLaw s) (n : RuleIx) : ChannelsLaw (s.placeClaims n) := by
  intro c
  rw [State.placeClaims_channel, (State.placeClaims_within ..).mode]
  exact (h c).restrain _ n c

theorem withdrawClaims (h : ChannelsLaw s) (n : RuleIx) : ChannelsLaw (s.withdrawClaims n) := fun c =>
  (State.withdrawClaims_channel s n c).symm ▸ ⟨(h c).law.dropRule n, (h c).runs⟩

theorem setRuleRt (h : ChannelsLaw s) (n : RuleIx) (x : RuleRuntime) : ChannelsLaw (s.setRuleRt n x) :=
  h.within (s.setRuleRt_within n x) (by decide)

theorem faultUpdate (h : ChannelsLaw s) : ChannelsLaw s.faultUpdate := h.within s.faultUpdate_within (by decide)

theorem trip (h : ChannelsLaw s) (n : RuleIx) (res : ResultRecord) : ChannelsLaw (s.trip n res) := by
  have placed : ChannelsLaw (s.entered n).faultUpdate := ((h.setRuleRt n _).placeClaims n).faultUpdate
  exact (((placed.within (State.logTrip_within ..) (by decide)).setRuleRt n _).snapshotAndExit n).setRuleRt n _

theorem clearRule (h : ChannelsLaw s) (n : RuleIx) : ChannelsLaw (s.clearRule n) :=
  ((h.setRuleRt n _).withdrawClaims n).faultUpdate.within (State.occurIf_within ..) (by decide)

theorem disarmRule (h : ChannelsLaw s) (n : RuleIx) : ChannelsLaw (s.disarmRule n) := by
  unfold State.disarmRule
  dsimp only
  split
  · exact ((h.setRuleRt n _).withdrawClaims n).faultUpdate
  · exact h.setRuleRt n _

theorem ruleMove {n : RuleIx} {res : ResultRecord} (h : ChannelsLaw s) (k : RuleMove n res s t) : ChannelsLaw t := by
  cases k with
  | stays => exact h
  | trips _ => exact h.trip n res
  | clears _ => exact h.clearRule n
  | moves _ _ _ _ _ => exact h.setRuleRt n _

theorem evaluate (h : ChannelsLaw s) (a : SlotIx) (res : ResultRecord) (n : RuleIx) :
    ChannelsLaw (State.evaluate a res s n) := by
  unfold State.evaluate
  split
  · exact (h.ruleMove (s.judge_ruleMove n res)).within (State.keepPrevious_within ..) (by decide)
  · exact h

theorem deliver (h : ChannelsLaw s) (d : Delivery) : ChannelsLaw (s.deliver d) := by
  have captured : ChannelsLaw ((s.writeResult d).captureResult d.slot) :=
    (h.within (s.writeResult_within d) (by decide)).within (State.captureResult_within _ d.slot) (by decide)
  have evaluated : ChannelsLaw (State.evaluateRules _ d.slot (d.record (s.result d.slot))) :=
    List.foldlRecOn (motive := ChannelsLaw) _ _ captured fun _ ht n _ => ht.evaluate _ _ n
  exact evaluated.within (State.requestFollowers_within ..) (by decide)

/-- What a completion or a deadline expiry hands on. -/
theorem handed {result : Job → Delivery} (h : ChannelsLaw s) (k : Handed result s t) : ChannelsLaw t := by
  cases k with
  | nothing hw => exact h.within hw (by decide)
  | delivered j _ hw => exact (h.deliver _).within hw (by decide)

/-! ## Commands and resets -/

theorem ack (h : ChannelsLaw s) (arg : Byte) : ChannelsLaw (State.ack arg s).state := by
  refine withIndex_state h fun n => ?_
  split
  · exact h
  · split
    · exact h.clearRule n
    iterate 2 exact h.setRuleRt n _
    all_goals exact h

theorem disarm (h : ChannelsLaw s) (arg : Byte) : ChannelsLaw (State.disarm arg s).state := by
  refine withIndex_state h fun n => ?_
  split
  · exact h
  · split
    · exact h
    all_goals exact h.disarmRule n

theorem guardEnter (h : ChannelsLaw s) : ChannelsLaw s.guardEnter.state := by
  unfold State.guardEnter
  repeat' split
  iterate 3 exact h
  exact h.enterGuard

theorem guardExit (h : ChannelsLaw s) : ChannelsLaw s.guardExit.state := by
  unfold State.guardExit
  split
  · exact h.leaveGuard _
  · exact h

/-- R150, R175: every channel is reset, and none is enabled. -/
theorem resetAll (s : State) (c : ResetCause) (b : Bool) : ChannelsLaw (s.resetAll c b) := by
  have channel : ∀ d, (s.resetAll c b).channel d = .reset := by simp [State.resetAll, State.reset, State.channel]
  exact fun d => (channel d).symm ▸ ⟨.reset, rfl⟩

end ChannelsLaw

end Sys2Proof.Safety

namespace Sys2Proof.Machine

open Sys2Proof.Safety

theorem Command.effect_channelsLaw (c : Command) (arg : Byte) (s : State) (hc : c ≠ .softReset) (h : ChannelsLaw s) :
    ChannelsLaw (c.effect arg s).state := by
  have hw := c.effect_within arg s hc
  cases c
  case softReset => exact absurd rfl hc
  case ack => exact h.ack arg
  case disarm => exact h.disarm arg
  case guardEnter => exact h.guardEnter
  case guardExit => exact h.guardExit
  all_goals exact h.within hw (by decide)

theorem Reg.writeEffect_channelsLaw (r : Reg) (d : Word) (f : State → State) (s : State) (hf : r.writeEffect d = some f)
    (h : ChannelsLaw s) : ChannelsLaw (f s) := by
  have hw := r.writeEffect_within d f s hf
  cases r <;> simp only [writeBlocks] at hw
  case pwmCtrl c => cases hf; exact h.writePwmCtrl c d
  case pwmConfig c r => cases hf; exact h.writePwmConfig c r d
  case guardCtrl => cases hf; exact h
  all_goals exact h.within hw (by decide)

theorem kept_channelsLaw : Kept ChannelsLaw where
  quiet k h := h.within k.within (by decide)
  command c arg s hc := c.effect_channelsLaw arg s hc
  write r d f s hf := r.writeEffect_channelsLaw d f s hf
  captureTime s h := h.within s.captureTime_within (by decide)
  captureEntry s h := h.within s.captureEntry_within (by decide)
  captureJob s h := h.within s.captureJob_within (by decide)
  captureFault s h := h.within s.captureFault_within (by decide)
  resetAll s c b _ := .resetAll s c b
  resetEnd s h := h.within (s.setTriggers_within _) (by decide)
  completion s k raw h := h.handed (s.completion_handed k raw)
  deadlineExpiry s h := h.handed s.deadlineExpiry_handed
  tick s k h := h.tick k
  periodicExpiry s n h := h.within (s.periodicExpiry_within n) (by decide)
  edge s pin l h := h.within (s.edge_within pin l) (by decide)
  pointReached s c h := h.pointReached c
  periodEnd s c h := h.periodEnd c
  dutyEnd s c h := h.dutyEnd c
  softStartExpiry s n h := h.within (s.setSwitch_within n _) (by decide)
  refillExpiry s n h := h.within (s.setSwitch_within n _) (by decide)
  retryExpiry s n h := h.within (s.setSwitch_within n _) (by decide)
  currentLimit s n h := h.within (s.currentLimit_within n) (by decide)

/-- Settles O59: every part of a step keeps the law of each channel in the part's mode. The enable and the mode change
only together with the start or the stop that R154 and R160 give, the duty falls with each restraint that arrives, and a
position moves only to a point within its period. -/
theorem pwmLawKept : Obligations.PwmLawKept :=
  fun _ _ hs ht => pwmLaw_iff.2 (kept_channelsLaw.step (pwmLaw_iff.1 hs) ht)

end Sys2Proof.Machine
end

section
/-! PROOF. The events of a PWM period, and the level of the pin (R149, R151, R153, R159). -/

namespace Sys2Proof.Machine

open Sys2Proof.Safety

namespace Channel

variable (x : Channel)

/-! ## Which event is next (log 6) -/

/-- This period has no trigger-point event to come (R159). -/
abbrev TrigTaken : Prop := x.trigDone = true ∨ x.period.toNat ≤ x.trig.toNat

/-- This period's pulse has ended, or does not end before the period (R151). -/
abbrev DutyTaken : Prop := x.duty.toNat ≤ x.position ∨ x.period.toNat ≤ x.duty.toNat

theorem trigAhead_iff_not_taken : x.trigAhead = true ↔ ¬x.TrigTaken := by
  rw [trigAhead_iff, not_or, Bool.not_eq_true, Nat.not_le]

theorem dutyAhead_iff_not_taken : x.dutyAhead = true ↔ ¬x.DutyTaken := by
  rw [dutyAhead_iff, not_or, Nat.not_le, Nat.not_le]

/-- Of the points still to come the next event is the first. -/
theorem eq_nextPoint_iff {p : Nat} (hp : p ∈ x.pointsAhead) : p = x.nextPoint ↔ ∀ q ∈ x.pointsAhead, p ≤ q :=
  ⟨fun h _ hq => h.trans_le (x.nextPoint_le_of_mem hq),
    fun h => le_antisymm (h _ ((x.mem_pointsAhead _).2 x.nextPoint_cases)) (x.nextPoint_le_of_mem hp)⟩

/-- What it is for a position to come no later than any point still ahead. -/
theorem forall_pointsAhead_iff {p : Nat} : (∀ q ∈ x.pointsAhead, p ≤ q) ↔
    (¬x.TrigTaken → p ≤ x.trig.toNat) ∧ (¬x.DutyTaken → p ≤ x.duty.toNat) ∧ p ≤ x.period.toNat := by
  simp only [mem_pointsAhead, trigAhead_iff_not_taken, dutyAhead_iff_not_taken]
  constructor
  · intro h
    exact ⟨fun ht => h _ (.inl ⟨ht, rfl⟩), fun hd => h _ (.inr (.inl ⟨hd, rfl⟩)), h _ (.inr (.inr rfl))⟩
  · rintro ⟨trig, duty, period⟩ q (⟨ht, rfl⟩ | ⟨hd, rfl⟩ | rfl)
    · exact trig ht
    · exact duty hd
    · exact period

theorem reaches_iff (p : Nat) :
    x.reaches p = true ↔ x.running = true ∧ p = x.nextPoint ∧ p ≤ x.position + x.owed := by
  simp [reaches, and_assoc]

/-- R151: the period ends once its two other events have been taken. -/
theorem reaches_period_iff : x.reaches x.period.toNat = true ↔
    x.running = true ∧ (x.TrigTaken ∧ x.DutyTaken) ∧ x.period.toNat ≤ x.position + x.owed := by
  rw [reaches_iff, eq_nextPoint_iff _ ((x.mem_pointsAhead _).2 (.inr (.inr rfl))), forall_pointsAhead_iff]
  refine and_congr_right' (and_congr_left' ⟨fun ⟨trig, duty, _⟩ => ⟨?_, ?_⟩, fun ⟨trig, duty⟩ => ?_⟩)
  · exact Decidable.byContradiction fun ht => ht (.inr (trig ht))
  · exact Decidable.byContradiction fun hd => hd (.inr (duty hd))
  · exact ⟨fun ht => absurd trig ht, fun hd => absurd duty hd, le_rfl⟩

/-- R151: the pulse ends once no earlier trigger point is to come. -/
theorem reaches_duty_iff : (x.dutyAhead = true ∧ x.reaches x.duty.toNat = true) ↔
    x.running = true ∧ ¬x.DutyTaken ∧ (x.TrigTaken ∨ x.duty.toNat ≤ x.trig.toNat) ∧
      x.duty.toNat ≤ x.position + x.owed := by
  rw [reaches_iff, and_left_comm, dutyAhead_iff_not_taken]
  refine and_congr_right' (and_congr_right fun ahead => and_congr_left' ?_)
  have mem := (x.mem_pointsAhead _).2 (.inr (.inl ⟨x.dutyAhead_iff_not_taken.2 ahead, rfl⟩))
  have inside := (x.dutyAhead_iff.1 (x.dutyAhead_iff_not_taken.2 ahead)).2
  rw [eq_nextPoint_iff _ mem, forall_pointsAhead_iff, Decidable.or_iff_not_imp_left]
  exact ⟨fun ⟨trig, _⟩ => trig, fun trig => ⟨trig, fun _ => le_rfl, inside.le⟩⟩

/-- R159: the trigger point is reached once no earlier end of the pulse is to come. -/
theorem reaches_trig_iff : (x.trigAhead = true ∧ x.reaches x.trig.toNat = true) ↔
    x.running = true ∧ ¬x.TrigTaken ∧ (x.DutyTaken ∨ x.trig.toNat ≤ x.duty.toNat) ∧
      x.trig.toNat ≤ x.position + x.owed := by
  rw [reaches_iff, and_left_comm, trigAhead_iff_not_taken]
  refine and_congr_right' (and_congr_right fun ahead => and_congr_left' ?_)
  have mem := (x.mem_pointsAhead _).2 (.inl ⟨x.trigAhead_iff_not_taken.2 ahead, rfl⟩)
  have inside := (x.trigAhead_iff.1 (x.trigAhead_iff_not_taken.2 ahead)).2
  rw [eq_nextPoint_iff _ mem, forall_pointsAhead_iff, Decidable.or_iff_not_imp_left]
  exact ⟨fun ⟨_, duty, _⟩ => duty, fun duty => ⟨fun _ => le_rfl, duty, inside.le⟩⟩

/-! ## The pin (R149, R153) -/

theorem active_iff : x.active = true ↔ x.running = true ∧ x.position < x.duty.toNat := by simp [active]

theorem pin_of_active (h : x.active = true) : x.pin = match x.cfg.polarity with
    | .activeHigh => .high
    | .activeLow => .low := by
  rw [pin, h]
  cases x.cfg.polarity <;> rfl

theorem pin_of_not_active (h : ¬x.active = true) : x.pin = match x.cfg.polarity with
    | .activeHigh => .low
    | .activeLow => .high := by
  rw [pin, Bool.eq_false_iff.2 h]
  cases x.cfg.polarity <;> rfl

end Channel

/-! ## The rows of the events -/

namespace State

variable {s : State} {c : ChIx}

/-- R151 step 5, on a channel just written. -/
theorem pointAtStart_setChannel (s : State) (c : ChIx) (x : Channel) : (s.setChannel c x).pointAtStart c =
    if x.trig = 0 then (s.setChannel c x).triggerPoint c else s.setChannel c x := by
  rw [pointAtStart, channel_setChannel, if_pos rfl]

theorem exec_pwmPeriodStart (h : (s.channel c).reaches (s.channel c).period.toNat = true) :
    exec (.pwmPeriodStart c) s = .next ((s.setChannel c (Channel.catchUp { (s.channel c).start with
      owed := (s.channel c).position + (s.channel c).owed - (s.channel c).period.toNat })).pointAtStart c) :=
  congrArg Host.Outcome.next (if_pos h)

theorem exec_pwmPeriodStart_early (h : ¬(s.channel c).reaches (s.channel c).period.toNat = true) :
    exec (.pwmPeriodStart c) s = .next s := congrArg Host.Outcome.next (if_neg h)

theorem exec_pwmDutyEnd (h : (s.channel c).dutyAhead = true ∧ (s.channel c).reaches (s.channel c).duty.toNat = true) :
    exec (.pwmDutyEnd c) s = .next (s.setChannel c (Channel.catchUp { s.channel c with
      position := (s.channel c).duty.toNat
      owed := (s.channel c).position + (s.channel c).owed - (s.channel c).duty.toNat })) :=
  congrArg Host.Outcome.next (if_pos h)

theorem exec_pwmDutyEnd_early
    (h : ¬((s.channel c).dutyAhead = true ∧ (s.channel c).reaches (s.channel c).duty.toNat = true)) :
    exec (.pwmDutyEnd c) s = .next s := congrArg Host.Outcome.next (if_neg h)

theorem exec_pwmTriggerPoint
    (h : (s.channel c).trigAhead = true ∧ (s.channel c).reaches (s.channel c).trig.toNat = true) :
    exec (.pwmTriggerPoint c) s = .next ((s.setChannel c (Channel.catchUp { s.channel c with
      position := (s.channel c).trig.toNat
      trigDone := true
      owed := (s.channel c).position + (s.channel c).owed - (s.channel c).trig.toNat })).triggerPoint c) :=
  congrArg Host.Outcome.next (if_pos h)

theorem exec_pwmTriggerPoint_early
    (h : ¬((s.channel c).trigAhead = true ∧ (s.channel c).reaches (s.channel c).trig.toNat = true)) :
    exec (.pwmTriggerPoint c) s = .next s := congrArg Host.Outcome.next (if_neg h)

end State

/-- Settles O46: each row by whether its point is the channel's next one and the time to it has passed; the duty of a period
start is the restrained pending duty. -/
theorem pwmEvents : Obligations.PwmEvents := by
  refine ⟨fun s c => ⟨⟨(s.channel c).restrained (s.channel c).cfg.duty, (s.channel c).restrained_of_forced _, ?unforced,
    rfl, State.pointAtStart_setChannel .., ?periodEnds⟩, ?dutyEnds, ?triggers, ?noPeriod, ?noDuty, ?noTrigger⟩,
    fun s c => ⟨?active, ?inactive⟩⟩
  case unforced =>
    intro hf
    obtain ⟨among, le, least⟩ := (s.channel c).restrained_of_unforced (s.channel c).cfg.duty hf
    exact ⟨le, least, among⟩
  case periodEnds =>
    intro hr ht hd hp
    have reached := (s.channel c).reaches_period_iff.2 ⟨hr, ⟨ht, hd⟩, hp⟩
    exact (State.exec_pwmPeriodStart reached).trans (congrArg _ (State.pointAtStart_setChannel ..))
  case dutyEnds =>
    intro hr hlt hin hfirst hp
    have ahead : ¬(s.channel c).DutyTaken := not_or.2 ⟨hlt.not_ge, hin.not_ge⟩
    exact State.exec_pwmDutyEnd ((s.channel c).reaches_duty_iff.2 ⟨hr, ahead, hfirst, hp⟩)
  case triggers =>
    intro hr hdone hin hfirst hp
    have ahead : ¬(s.channel c).TrigTaken := not_or.2 ⟨Bool.eq_false_iff.1 hdone, hin.not_ge⟩
    exact State.exec_pwmTriggerPoint ((s.channel c).reaches_trig_iff.2 ⟨hr, ahead, hfirst, hp⟩)
  case noPeriod =>
    intro h
    refine State.exec_pwmPeriodStart_early fun reached => ?_
    obtain ⟨hr, ⟨ht, hd⟩, hp⟩ := (s.channel c).reaches_period_iff.1 reached
    obtain h | h | h | h := h
    · exact nomatch hr.symm.trans h
    · exact h.not_ge hp
    · exact h ht
    · exact h hd
  case noDuty =>
    intro h
    refine State.exec_pwmDutyEnd_early fun reached => ?_
    obtain ⟨hr, ahead, hfirst, hp⟩ := (s.channel c).reaches_duty_iff.1 reached
    obtain h | h | h | ⟨ht, hlt⟩ := h
    · exact nomatch hr.symm.trans h
    · exact h.not_ge hp
    · exact ahead h
    · exact hfirst.elim ht hlt.not_ge
  case noTrigger =>
    intro h
    refine State.exec_pwmTriggerPoint_early fun reached => ?_
    obtain ⟨hr, ahead, hfirst, hp⟩ := (s.channel c).reaches_trig_iff.1 reached
    obtain h | h | h | ⟨hd, hlt⟩ := h
    · exact nomatch hr.symm.trans h
    · exact h.not_ge hp
    · exact ahead h
    · exact hfirst.elim hd hlt.not_ge
  case active => exact fun h => (s.channel c).pin_of_active ((s.channel c).active_iff.2 h)
  case inactive => exact fun h => (s.channel c).pin_of_not_active fun ha => h ((s.channel c).active_iff.1 ha)

end Sys2Proof.Machine
end

section
/-! SUPPORT. What an occurrence and the host's writes do to the event unit, in the words the statements use (R163 to R168). -/

namespace Sys2Proof.Machine

open Sys2Proof.Safety

/-! ## Bits and kinds -/

/-- The twelve bits that a word writes to the latches or the enables. -/
theorem field_twelve (d : Word) : field d 0 12 = d.setWidth 12 := (BitVec.setWidth_eq_extractLsb' (by decide)).symm

theorem EventKind.index_eq (k : EventKind) : k.index = eventKinds.idxOf k := by cases k <;> rfl

/-- Each of the twelve indexes is that of a kind. -/
theorem EventKind.exists_index_iff (p : Nat → Prop) : (∃ i : Fin 12, p i) ↔ ∃ k : EventKind, p k.index := by
  have place : ∀ i : Fin 12, (eventKinds[i]'i.isLt).index = i := by decide
  constructor
  · exact fun ⟨i, hi⟩ => ⟨_, (place i).symm ▸ hi⟩
  · exact fun ⟨k, hk⟩ => ⟨⟨k.index, by cases k <;> decide⟩, hk⟩

/-- Two sets have an element in common. -/
theorem and_ne_zero_iff {n : Nat} (x y : BitVec n) :
    x &&& y ≠ 0 ↔ ∃ i : Fin n, x.getLsbD i = true ∧ y.getLsbD i = true := by
  constructor
  · intro h
    by_contra hc
    refine h (bits_ext fun i => (Bool.eq_false_iff.2 fun hi => hc ⟨i, ?_⟩).trans BitVec.getLsbD_zero.symm)
    rwa [BitVec.getLsbD_and, Bool.and_eq_true] at hi
  · rintro ⟨i, hx, hy⟩ h
    have common : (x &&& y).getLsbD i = true := by rw [BitVec.getLsbD_and, hx, hy]; rfl
    rw [h] at common
    exact absurd common (by simp)

namespace EventUnit

variable (e : EventUnit)

/-! ## The pulse (R165, R168) -/

/-- R168: a pulse starts only if none runs. -/
theorem startPulse_eq : e.startPulse = { e with pulse := if e.pulse = none then some 2 else e.pulse } := by
  unfold startPulse
  split
  · next h => rw [if_pos h]; rfl
  · next h => rw [if_neg (by simp [h])]

/-- A change of the unit that starts a pulse on a condition. -/
theorem ite_startPulse (c : Prop) [Decidable c] :
    (if c then e.startPulse else e) = { e with pulse := if c ∧ e.pulse = none then some 2 else e.pulse } := by
  by_cases hc : c <;> simp [hc, startPulse_eq]

theorem occur_eq (k : EventKind) : e.occur k = { e with
    latches := e.latches ||| BitVec.twoPow 12 k.index
    pulse := if e.irqMode = .pulse ∧ e.enables.getLsbD k.index = true ∧ e.pulse = none then some 2 else e.pulse } := by
  rw [occur, ite_startPulse]
  simp only [and_assoc]
  rfl

/-- R165: the kinds that become enabled are those written with a one and not enabled before. -/
theorem writeEnables_eq (d : Word) : e.writeEnables d = { e with
    enables := d.setWidth 12
    pulse := if e.irqMode = .pulse ∧ e.pulse = none ∧
        (∃ i : Fin 12, d.getLsbD i = true ∧ e.enables.getLsbD i = false ∧ e.latches.getLsbD i = true)
      then some 2 else e.pulse } := by
  have fresh : d.setWidth 12 &&& ~~~e.enables &&& e.latches ≠ 0 ↔
      ∃ i : Fin 12, d.getLsbD i = true ∧ e.enables.getLsbD i = false ∧ e.latches.getLsbD i = true := by
    rw [and_ne_zero_iff]
    exact exists_congr fun i => by simp [and_assoc]
  rw [writeEnables, ite_startPulse, field_twelve]
  simp only [fresh, and_right_comm (b := ∃ _, _), and_assoc]

theorem writeEnables_fault (d : Word) : (e.writeEnables d).fault = e.fault := by rw [writeEnables_eq]

/-! ## The IRQ condition (R167, R168) -/

theorem irq_level (h : e.irqMode = .level) :
    e.irq = true ↔ ∃ k : EventKind, e.latches.getLsbD k.index = true ∧ e.enables.getLsbD k.index = true := by
  rw [irq, h, bne_iff_ne, and_ne_zero_iff]
  exact EventKind.exists_index_iff fun i => e.latches.getLsbD i = true ∧ e.enables.getLsbD i = true

theorem irq_pulse (h : e.irqMode = .pulse) : e.irq = true ↔ e.pulse ≠ none := by
  rw [irq, h]
  exact Option.isSome_iff_ne_none

end EventUnit

end Sys2Proof.Machine
end

section
/-! SUPPORT. What leaves the FAULT bit alone: requests, trigger sources, GUARD exits, pushes and log entries latch events at
most, and FAULT follows its condition only through FAULT_UPDATE (R163, R171). -/

namespace Sys2Proof.Machine.State

open Sys2Proof.Safety

variable (s : State)

/-- Operations taken one after another, none of which changes FAULT. -/
theorem foldl_fault {α : Type} {f : State → α → State} (h : ∀ t a, (f t a).events.fault = t.events.fault) (l : List α) :
    (l.foldl f s).events.fault = s.events.fault :=
  List.foldlRecOn (motive := fun t => t.events.fault = s.events.fault) _ _ rfl fun t ht a _ => (h t a).trans ht

/-! ## Requests (R23, R24, R33) -/

@[simp] theorem grant_fault : s.grant.events.fault = s.events.fault := by rw [(grant_within s).events]

@[simp] theorem countOverrun_fault (n) : (s.countOverrun n).events.fault = s.events.fault := by simp [countOverrun]

@[simp] theorem request_fault (o n) : (s.request o n).events.fault = s.events.fault := by
  unfold request
  split
  · split <;> simp
  · rw [(enqueue_within s o n).events]

@[simp] theorem absorbPlain_fault (n) : (s.absorbPlain n).events.fault = s.events.fault := by
  unfold absorbPlain
  split <;> simp

@[simp] theorem suspend_fault (j) : (s.suspend j).events.fault = s.events.fault := by simp [suspend]

/-! ## Trigger sources (R45, R47, R52, R53) -/

@[simp] theorem raise_fault (o n) : (s.raise o n).events.fault = s.events.fault := by
  unfold raise
  split <;> simp

@[simp] theorem raiseAll_fault (o f) : (s.raiseAll o f).events.fault = s.events.fault := by
  rw [raiseAll, foldl_fault]
  intro t n
  split <;> simp

@[simp] theorem requestFollowers_fault (n) : (s.requestFollowers n).events.fault = s.events.fault := by
  rw [requestFollowers, raiseAll_fault]

@[simp] theorem expire_fault (n) : (s.expire n).events.fault = s.events.fault := by
  unfold expire
  split <;> simp

@[simp] theorem periodicExpiry_fault (n) : (s.periodicExpiry n).events.fault = s.events.fault := by
  unfold periodicExpiry
  split <;> simp

@[simp] theorem restartTriggers_fault (n) : (s.restartTriggers n).events.fault = s.events.fault := by
  unfold restartTriggers
  dsimp only
  split
  · split <;> simp
  · simp

@[simp] theorem installSlot_fault (n r) : (s.installSlot n r).events.fault = s.events.fault := by
  rw [installSlot, restartTriggers_fault, setResult_events, (withdrawJob_within ..).events]
  rfl

@[simp] theorem edge_fault (pin l) : (s.edge pin l).events.fault = s.events.fault := by
  unfold edge
  dsimp only
  split <;> simp

@[simp] theorem triggerPoint_fault (c) : (s.triggerPoint c).events.fault = s.events.fault := by
  rw [triggerPoint, foldl_fault]
  intro t n
  unfold countPoint
  split
  · split
    · split <;> simp
    · rfl
  all_goals rfl

/-! ## PWM channels (R151, R154, R159) -/

@[simp] theorem pointAtStart_fault (c) : (s.pointAtStart c).events.fault = s.events.fault := by
  unfold pointAtStart
  split <;> simp

@[simp] theorem startPeriod_fault (c) : (s.startPeriod c).events.fault = s.events.fault := by simp [startPeriod]

@[simp] theorem periodEnd_fault (c) : (s.periodEnd c).events.fault = s.events.fault := by
  unfold periodEnd
  dsimp only
  split <;> simp

@[simp] theorem pointReached_fault (c) : (s.pointReached c).events.fault = s.events.fault := by
  unfold pointReached
  dsimp only
  split <;> simp

@[simp] theorem writePwmCtrl_fault (c d) : (writePwmCtrl c d s).events.fault = s.events.fault := by
  rw [writePwmCtrl_eq]
  split
  · simp
  · split <;> simp

/-! ## GUARD exits (R180 to R182) -/

@[simp] theorem takeReleased_fault (o) : (s.takeReleased o).events.fault = s.events.fault := by
  cases o <;> simp [takeReleased]

@[simp] theorem takeAllReleased_fault (k os) : (takeAllReleased k os s).events.fault = s.events.fault := by
  induction k generalizing os s with
  | zero => rfl
  | succ k ih =>
    match os with
    | [] => rfl
    | [o] => exact takeReleased_fault s o
    | o :: p :: os => exact (ih ..).trans (takeReleased_fault ..)

@[simp] theorem leaveGuard_fault (c) : (s.leaveGuard c).events.fault = s.events.fault :=
  (takeAllReleased_fault ..).trans (occur_fault ..)

@[simp] theorem wakeExit_fault (r) : (s.wakeExit r).events.fault = s.events.fault := by
  unfold wakeExit
  split <;> simp

/-! ## Trips and pushes (R85 to R87, R111, R123) -/

@[simp] theorem logTrip_fault (e) : (s.logTrip e).events.fault = s.events.fault := by
  unfold logTrip
  dsimp only
  split <;> simp

@[simp] theorem snapshotRequest_fault (n) : (s.snapshotRequest n).events.fault = s.events.fault := by
  unfold snapshotRequest
  split <;> simp

@[simp] theorem snapshotAndExit_fault (n) : (s.snapshotAndExit n).events.fault = s.events.fault := by
  unfold snapshotAndExit
  dsimp only
  split
  · split
    · split <;> simp
    · simp
  · simp

@[simp] theorem captureResult_fault (n) : (s.captureResult n).events.fault = s.events.fault := by
  unfold captureResult push
  split
  · split
    · simp
    · split <;> simp
  · rfl

end Sys2Proof.Machine.State
end

section
/-! SUPPORT. The law of FAULT as an equation of the bit and its condition, and what keeps it: FAULT_UPDATE makes it true, and
where FAULT stays every cause has to stay (R171). -/

namespace Sys2Proof.Machine

/-- The switch is a cause of FAULT: in LOCKOUT, and configured so (R127, R171). -/
def Switch.faults (w : Switch) : Bool := w.state == .lockout && w.cfg.lockoutFault

theorem State.switchFaults_eq (s : State) (k : SwIx) : s.switchFaults k = (s.switch k).faults := rfl

/-! ## Switches -/

namespace Switch

variable {w : Switch}

theorem faults_of_ne (h : w.state ≠ .lockout) : w.faults = false := by simp [faults, h]

theorem softStartExpiry_faults : w.softStartExpiry.faults = w.faults := by
  unfold softStartExpiry
  split
  · next h => rw [faults_of_ne (w := w) (by simp [h.1]), faults_of_ne (by simp [enterOn])]
  · rfl

theorem refillExpiry_faults : w.refillExpiry.faults = w.faults := by
  unfold refillExpiry
  split
  · next h => rw [faults_of_ne (w := w) (by simp [h.1]), faults_of_ne (by simp [enterOn])]
  · rfl

theorem retryExpiry_faults : w.retryExpiry.faults = w.faults := by
  unfold retryExpiry
  split
  · next h => rw [faults_of_ne (w := w) (by simp [h.1]), faults_of_ne (by simp [enterSoftStart])]
  · rfl

end Switch

end Sys2Proof.Machine

namespace Sys2Proof.Safety

open Sys2Proof.Machine

/-- R171: the bit has the value of its condition. -/
theorem faultLaw_iff {s : State} : FaultLaw s ↔ s.events.fault = s.faultCondition := by
  rw [Bool.eq_iff_iff, FaultLaw]
  simp [State.faultCondition, State.ruleFaults, State.switchFaults]

namespace FaultLaw

variable {s t : State} {bs : List Block}

/-- FAULT_UPDATE makes the law true, whatever FAULT was. -/
theorem faultUpdate (s : State) : FaultLaw s.faultUpdate := faultLaw_iff.2 rfl

/-- Where FAULT stays, every rule and every switch has to stay the cause that it is. -/
theorem of_causes (h : FaultLaw s) (hf : t.events.fault = s.events.fault) (hr : ∀ n, t.ruleFaults n = s.ruleFaults n)
    (hw : ∀ k, (t.switch k).faults = (s.switch k).faults) : FaultLaw t := by
  have switches : t.switchFaults = s.switchFaults := funext hw
  rw [faultLaw_iff] at h ⊢
  rw [hf, h, State.faultCondition, State.faultCondition, funext hr, switches]

/-- An operation that leaves the rules, the switches and FAULT alone, and may latch events. -/
theorem within (h : FaultLaw s) (w : Within bs s t) (hf : t.events.fault = s.events.fault)
    (hb : ∀ b ∈ [Block.watch, .switches], b ∉ bs := by decide) : FaultLaw t :=
  h.of_causes hf
    (fun n => by rw [State.ruleFaults, State.ruleFaults, w.rule n (hb _ (by simp)), w.ruleRt n (hb _ (by simp))])
    (fun k => by rw [w.switch k (hb _ (by simp))])

/-- An operation that leaves the rules, the switches and the event unit alone. -/
theorem apart (h : FaultLaw s) (w : Within bs s t) (hb : ∀ b ∈ [Block.events, .watch, .switches], b ∉ bs := by decide) :
    FaultLaw t :=
  h.within w (by rw [w.events (hb _ (by simp))]) fun b hm => hb b (List.mem_cons_of_mem _ hm)

/-- A rule that is as active as it was. -/
theorem setRuleRt (h : FaultLaw s) (n : RuleIx) {x : RuleRuntime} (hx : x.state.active = (s.ruleRt n).state.active) :
    FaultLaw (s.setRuleRt n x) := by
  refine h.of_causes rfl (fun m => ?_) fun _ => rfl
  rw [State.ruleFaults, State.ruleRt_setRuleRt, State.setRuleRt_rule]
  split
  · next hm => rw [hx, hm]; rfl
  · rfl

/-- R102, R103: a rule that is replaced was not active, and the new one starts in CLEAR or DISARMED. -/
theorem installRule (h : FaultLaw s) (n : RuleIx) (r : WatchRecord) (ha : (s.ruleRt n).state.active = false) :
    FaultLaw (s.installRule n r) := by
  refine h.of_causes rfl (fun m => ?_) fun _ => rfl
  rw [State.ruleFaults, State.installRule_ruleRt, State.installRule_rule]
  split
  · next hm =>
    have idle : (if r.pinned = true then RuleState.clear else .disarmed).active = false := by split <;> rfl
    rw [State.ruleFaults, hm, ha, Bool.false_and, Bool.and_eq_false_iff]
    exact .inl idle
  · rfl

/-- A switch that stays the cause that it is. -/
theorem setSwitch (h : FaultLaw s) (n : SwIx) {w : Switch} (hw : w.faults = (s.switch n).faults) :
    FaultLaw (s.setSwitch n w) := by
  refine h.of_causes rfl (fun _ => rfl) fun k => ?_
  rw [State.switch_setSwitch]
  split
  · next hk => rw [hw, hk]
  · rfl

/-- Time that passes moves no switch from its state. -/
theorem tick (h : FaultLaw s) (k : Nat) : FaultLaw (s.tick k) :=
  h.of_causes rfl (fun _ => rfl) fun n => by rw [s.switch_tick k n]; rfl

/-- R98, R129, R162: after a reset no rule is active, no switch is in LOCKOUT and FAULT is released. -/
theorem resetAll (s : State) (c : ResetCause) (b : Bool) : FaultLaw (s.resetAll c b) := by
  have rule : ∀ n, (s.resetAll c b).ruleRt n = .reset := by simp [State.resetAll, State.reset, State.ruleRt]
  have switch : ∀ k, (s.resetAll c b).switch k = .reset := by simp [State.resetAll, State.reset, State.switch]
  refine ⟨nofun, ?_⟩
  rintro (⟨n, ha, -⟩ | ⟨k, hl, -⟩)
  · rw [rule] at ha; cases ha
  · rw [switch] at hl; cases hl

end FaultLaw

end Sys2Proof.Safety
end

section
/-! PROOF. Every step keeps FAULT equal to its condition (R171). -/

namespace Sys2Proof.Safety.FaultLaw

open Sys2Proof.Machine

variable {s t : State}

/-! ## Rules and deliveries -/

/-- R111: FAULT is updated once the claims are placed, and the actions that follow leave the causes alone. -/
theorem trip (s : State) (n : RuleIx) (res : ResultRecord) : FaultLaw (s.trip n res) := by
  have logged : ∀ e, FaultLaw ((s.entered n).faultUpdate.logTrip e) := fun e =>
    (faultUpdate _).within (State.logTrip_within ..) (State.logTrip_fault ..)
  exact (((logged _).setRuleRt n (by rfl)).within (State.snapshotAndExit_within ..)
    (State.snapshotAndExit_fault ..)).setRuleRt n (by rfl)

/-- R114, R116. -/
theorem clearRule (s : State) (n : RuleIx) : FaultLaw (s.clearRule n) :=
  (faultUpdate _).within (State.occurIf_within ..) (State.occurIf_fault ..)

/-- R118: a rule that was not active was no cause, and is none when it is DISARMED. -/
theorem disarmRule (h : FaultLaw s) (n : RuleIx) : FaultLaw (s.disarmRule n) := by
  unfold State.disarmRule
  dsimp only
  split
  · exact faultUpdate _
  · next ha => exact h.setRuleRt n (Bool.eq_false_iff.2 ha).symm

theorem ruleMove {n : RuleIx} {res : ResultRecord} (h : FaultLaw s) (k : RuleMove n res s t) : FaultLaw t := by
  cases k with
  | stays => exact h
  | trips _ => exact trip s n res
  | clears _ => exact clearRule s n
  | moves _ _ _ ha _ => exact h.setRuleRt n ha

theorem evaluate (h : FaultLaw s) (a : SlotIx) (res : ResultRecord) (n : RuleIx) :
    FaultLaw (State.evaluate a res s n) := by
  have judged : FaultLaw (s.judge n res) := h.ruleMove (s.judge_ruleMove n res)
  unfold State.evaluate State.keepPrevious
  split
  · split
    · exact judged.setRuleRt n rfl
    · exact judged
  · exact h

theorem deliver (h : FaultLaw s) (d : Delivery) : FaultLaw (s.deliver d) := by
  have captured : FaultLaw ((s.writeResult d).captureResult d.slot) :=
    (h.apart (s.writeResult_within d)).within (State.captureResult_within ..) (State.captureResult_fault ..)
  have evaluated : FaultLaw (State.evaluateRules _ d.slot (d.record (s.result d.slot))) :=
    List.foldlRecOn (motive := FaultLaw) _ _ captured fun _ ht n _ => ht.evaluate _ _ n
  rw [State.deliver]
  exact evaluated.within (State.requestFollowers_within ..) (State.requestFollowers_fault ..)

/-! ## The engine -/

/-- R66: the four ends of a completed sample. -/
theorem afterSample (h : FaultLaw s) (j : Job) : FaultLaw (s.afterSample j) := by
  unfold State.afterSample
  split
  · exact h.apart (s.endStale_within j)
  · split
    · have handed := (h.deliver (j.validResult s.now)).apart (State.setOutcome_within _ j.slot .stored)
      exact (handed.apart (State.setEngine_within ..)).apart (State.grant_within _)
    · split
      · exact h.within (s.suspend_within j) (s.suspend_fault j)
      · exact h.apart (s.startSample_within j)

theorem completion (h : FaultLaw s) (k : Nat) (raw : Code12) : FaultLaw (s.completion k raw) := by
  unfold State.completion
  split
  · split
    · exact h.afterSample _
    · exact h
  all_goals exact h

/-- R69. -/
theorem endFailed (h : FaultLaw s) (j : Job) : FaultLaw (s.endFailed j) := by
  unfold State.endFailed
  split
  · exact h.apart (s.setOutcome_within j.slot .stale)
  · exact (h.deliver _).apart (State.setOutcome_within ..)

theorem deadlineExpiry (h : FaultLaw s) : FaultLaw s.deadlineExpiry := by
  unfold State.deadlineExpiry
  split
  · next j _ =>
    split
    · exact ((h.endFailed j).apart (State.enterFaulted_within ..)).within (State.occur_within ..) (State.occur_fault ..)
    · exact h
  all_goals exact h

/-! ## Switches -/

/-- R136: an event that is taken ends with FAULT_UPDATE. -/
theorem currentLimit (h : FaultLaw s) (n : SwIx) : FaultLaw (s.currentLimit n) := by
  unfold State.currentLimit
  dsimp only
  split
  · exact faultUpdate _
  · exact h

/-- R130: a switch in OFF leaves for SOFTSTART or HELD. -/
theorem swOn (h : FaultLaw s) (arg : Byte) : FaultLaw (State.swOn arg s).state := by
  refine withIndex_state h fun n => ?_
  dsimp only
  split
  · next hx =>
    have idle : (s.switch n).faults = false := Switch.faults_of_ne (by simp [hx])
    split <;> exact h.setSwitch n idle.symm
  all_goals exact h

/-- R131: SW_OFF leaves a switch in LOCKOUT there. -/
theorem swOff (h : FaultLaw s) (arg : Byte) : FaultLaw (State.swOff arg s).state := by
  refine withIndex_state h fun n => ?_
  dsimp only
  split
  · exact h
  iterate 4 next hx => exact h.setSwitch n (Switch.faults_of_ne (by simp [hx])).symm
  · split
    · exact h.setSwitch n rfl
    · exact h

/-- R132: leaving LOCKOUT ends with FAULT_UPDATE. -/
theorem swClear (h : FaultLaw s) (arg : Byte) : FaultLaw (State.swClear arg s).state := by
  refine withIndex_state h fun n => ?_
  dsimp only
  split
  · exact faultUpdate _
  · exact h

/-! ## Commands of the rules and the table -/

theorem ack (h : FaultLaw s) (arg : Byte) : FaultLaw (State.ack arg s).state := by
  refine withIndex_state h fun n => ?_
  split
  · exact h
  · split
    · exact clearRule s n
    iterate 2 exact h.setRuleRt n rfl
    all_goals exact h

/-- R117: a rule is as little active in CLEAR as in DISARMED. -/
theorem arm (h : FaultLaw s) (arg : Byte) : FaultLaw (State.arm arg s).state := by
  refine withIndex_state h fun n => ?_
  split
  · next hx => exact h.setRuleRt n (congrArg RuleState.active hx).symm
  all_goals exact h

theorem disarm (h : FaultLaw s) (arg : Byte) : FaultLaw (State.disarm arg s).state := by
  refine withIndex_state h fun n => ?_
  split
  · exact h
  · split
    · exact h
    all_goals exact h.disarmRule n

theorem commit (h : FaultLaw s) : FaultLaw s.commit.state := by
  obtain ⟨_, _, hc⟩ | ⟨n, r, -, -, -, -, hc⟩ | ⟨n, r, -, ha, -, -, -, hc⟩ := s.commit_cases <;> rw [hc]
  · exact h
  · have installed := h.within (s.installSlot_within n r) (s.installSlot_fault n r)
    exact installed.apart (State.stageInstalledSlot_within ..)
  · exact (h.installRule n r ha).apart (State.stageInstalledRule_within ..)

/-- R57: TRIGGER is refused, or it is a request. -/
theorem trigger (h : FaultLaw s) (arg : Byte) : FaultLaw (State.trigger arg s).state := by
  refine withIndex_state h fun n => ?_
  split
  · exact h
  · split
    · exact h
    · exact h.within (s.request_within .host n) (s.request_fault .host n)

theorem guardExit (h : FaultLaw s) : FaultLaw s.guardExit.state := by
  unfold State.guardExit
  split
  · exact h.within (s.leaveGuard_within .host) (s.leaveGuard_fault .host)
  · exact h

end Sys2Proof.Safety.FaultLaw

namespace Sys2Proof.Machine

open Sys2Proof.Safety

theorem Command.effect_faultLaw (c : Command) (arg : Byte) (s : State) (hc : c ≠ .softReset) (h : FaultLaw s) :
    FaultLaw (c.effect arg s).state := by
  cases c
  case softReset => exact absurd rfl hc
  case commit => exact h.commit
  case trigger => exact h.trigger arg
  case arm => exact h.arm arg
  case disarm => exact h.disarm arg
  case ack => exact h.ack arg
  case swOn => exact h.swOn arg
  case swOff => exact h.swOff arg
  case swClear => exact h.swClear arg
  case guardExit => exact h.guardExit
  all_goals exact h.apart (Command.effect_within _ arg s hc)

theorem Reg.writeEffect_faultLaw (r : Reg) (d : Word) (f : State → State) (s : State) (hf : r.writeEffect d = some f)
    (h : FaultLaw s) : FaultLaw (f s) := by
  have hw := r.writeEffect_within d f s hf
  cases r <;> simp only [writeBlocks] at hw <;> cases hf
  case swCfg n => exact .faultUpdate _
  case swTrips n => exact h.setSwitch n rfl
  case pwmCtrl c => exact h.within hw (s.writePwmCtrl_fault c d)
  case evtLatch => exact h.within hw rfl
  case evtEnable => exact h.within hw (s.events.writeEnables_fault d)
  case irqCtrl => exact h.within hw rfl
  all_goals exact h.apart hw

theorem kept_faultLaw : Kept FaultLaw where
  quiet k h := h.within k.within k.fault
  command c arg s hc := c.effect_faultLaw arg s hc
  write r d f s hf := r.writeEffect_faultLaw d f s hf
  captureTime s h := h.apart s.captureTime_within
  captureEntry s h := h.apart s.captureEntry_within
  captureJob s h := h.apart s.captureJob_within
  captureFault s h := h.apart s.captureFault_within
  resetAll s c b _ := .resetAll s c b
  resetEnd s h := h.apart (s.setTriggers_within _)
  completion s k raw h := h.completion k raw
  deadlineExpiry s h := h.deadlineExpiry
  tick s k h := h.tick k
  periodicExpiry s n h := h.within (s.periodicExpiry_within n) (s.periodicExpiry_fault n)
  edge s pin l h := h.within (s.edge_within pin l) (s.edge_fault pin l)
  pointReached s c h := h.within (s.pointReached_within c) (s.pointReached_fault c)
  periodEnd s c h := h.within (s.periodEnd_within c) (s.periodEnd_fault c)
  dutyEnd s c h := h.apart (s.dutyEnd_within c)
  softStartExpiry s n h := h.setSwitch n Switch.softStartExpiry_faults
  refillExpiry s n h := h.setSwitch n Switch.refillExpiry_faults
  retryExpiry s n h := h.setSwitch n Switch.retryExpiry_faults
  currentLimit s n h := h.currentLimit n

/-- Settles O57: every part of a step keeps the law. What can make or end a cause ends with FAULT_UPDATE, or what follows
leaves FAULT and every cause alone; any other part leaves FAULT as it is and every rule and switch the cause that it is. -/
theorem faultLawKept : Obligations.FaultLawKept :=
  fun _ _ hs ht => kept_faultLaw.step hs ht

end Sys2Proof.Machine
end

section
/-! PROOF. The event unit: its kinds, an occurrence, the IRQ condition and pin, the host's writes, the expiry of the pulse, and
the words of its registers (R163 to R169). -/

namespace Sys2Proof.Machine

open Sys2Proof.Safety

/-! ## Words (11.6.1) -/

@[simp] theorem IrqPolarity.toNat_code (x : IrqPolarity) :
    x.code.toNat = [IrqPolarity.activeLow, .activeHigh].idxOf x := by cases x <;> rfl

@[simp] theorem IrqMode.toNat_code (x : IrqMode) : x.code.toNat = [IrqMode.level, .pulse].idxOf x := by cases x <;> rfl

theorem eventWords (s : State) : EventWords s where
  latch := by
    simp [shows, Reg.value]
    omega
  enable := by
    simp [shows, Reg.value]
    omega
  ctrl := by
    rw [shows, Reg.value, EventUnit.ctrlWord]
    repeat rw [toNat_join]
    simp

namespace State

variable (s : State)

/-- R166: the pin is high exactly when the polarity's active level and the condition agree. -/
theorem irqPin_high : s.irqPin = .high ↔ (s.events.irqPolarity = .activeHigh ↔ s.events.irq = true) := by
  unfold irqPin
  cases s.events.irqPolarity <;> cases s.events.irq <;> simp

theorem occur_eq (k : EventKind) : s.occur k = { s with events := { s.events with
    latches := s.events.latches ||| BitVec.twoPow 12 k.index
    pulse := if s.events.irqMode = .pulse ∧ s.events.enables.getLsbD k.index = true ∧ s.events.pulse = none then some 2
      else s.events.pulse } } := congrArg s.setEvents (s.events.occur_eq k)

/-! ## Rows -/

variable {s}

/-- The write rows of the event unit, from what their effects leave. -/
theorem exec_evtLatchWrite (hr : Ready s) (d : Word) :
    exec (.evtLatchWrite d) s = .next (answered (writeEvtLatch d s) 0xC0 d) :=
  congrArg Host.Outcome.next (hostWrite_answered hr 0xC0 d _)

theorem exec_evtEnableWrite (hr : Ready s) (d : Word) :
    exec (.evtEnableWrite d) s = .next (answered (writeEvtEnable d s) 0xC1 d) :=
  congrArg Host.Outcome.next (hostWrite_answered hr 0xC1 d _)

theorem exec_irqCtrlWrite (hr : Ready s) (d : Word) :
    exec (.irqCtrlWrite d) s = .next (answered (writeIrqCtrl d s) 0xC2 d) :=
  congrArg Host.Outcome.next (hostWrite_answered hr 0xC2 d _)

/-- R169: the pulse ends when its timer has run out. -/
theorem exec_irqPulseExpiry_due (h : s.events.pulse = some 0) :
    exec .irqPulseExpiry s = .next { s with events := { s.events with pulse := none } } :=
  congrArg (fun e => Host.Outcome.next (s.setEvents e)) (if_pos h)

theorem exec_irqPulseExpiry_early (h : s.events.pulse ≠ some 0) : exec .irqPulseExpiry s = .next s :=
  congrArg (fun e => Host.Outcome.next (s.setEvents e)) (if_neg h)

end State

/-- Settles O47: an occurrence and each write as one change of the event unit, the condition by the mode, and the pin and the
words from the unit's fields. -/
theorem eventUnitWorks : Obligations.EventUnitWorks := by
  refine ⟨EventKind.index_eq, fun s k => ⟨s.occur_eq k, s.events.irq_level, s.events.irq_pulse⟩,
    fun s => ⟨fun hr d => ⟨?latch, ?enable, ?ctrl⟩, State.exec_irqPulseExpiry_due, State.exec_irqPulseExpiry_early,
      s.irqPin_high, eventWords s⟩⟩
  case latch =>
    rw [State.exec_evtLatchWrite hr, State.writeEvtLatch, EventUnit.clearLatches, field_twelve]
    rfl
  case enable =>
    rw [State.exec_evtEnableWrite hr, State.writeEvtEnable, EventUnit.writeEnables_eq]
    rfl
  case ctrl => exact State.exec_irqCtrlWrite hr d

end Sys2Proof.Machine
end

section
/-! PROOF. GUARD_ENTER: its refusals, and the part in GUARD (R28, R49, R75, R160, R177, R178). -/

namespace Sys2Proof.Machine

open Sys2Proof.Safety

theorem Countdown.freeze_eq (c : Countdown) :
    c.freeze = if c.state = .running then { c with state := .frozen } else c := by
  obtain ⟨state, left⟩ := c
  cases state <;> rfl

namespace State

variable (s : State)

/-! ## What GUARD_ENTER asks (R177) -/

theorem hasGuardSlot_iff : s.hasGuardSlot = true ↔ ∃ n, (s.record n).enabled = true ∧ (s.record n).guard = true := by
  simp [hasGuardSlot]

theorem hasGuardSlot_false (h : ∀ n, (s.record n).enabled = false ∨ (s.record n).guard = false) :
    s.hasGuardSlot = false := by
  simpa [hasGuardSlot, or_iff_not_imp_left] using h

theorem pinnedUnguarded_iff : s.pinnedUnguarded = true ↔
    ∃ r n, (s.rule r).pinned = true ∧ ((s.rule r).srcA = n ∨ (s.rule r).kind = .diffAbove n) ∧
      (s.record n).guard = false := by
  simp only [pinnedUnguarded, List.any_eq_true, List.mem_finRange, true_and, Bool.and_eq_true, Bool.not_eq_true',
    pinnedSource_iff]
  constructor
  · exact fun ⟨n, ⟨r, pinned, source⟩, guard⟩ => ⟨r, n, pinned, source, guard⟩
  · exact fun ⟨r, n, pinned, source, guard⟩ => ⟨n, ⟨r, pinned, source⟩, guard⟩

/-! ## The part in GUARD (R178) -/

/-- R49: what the entry leaves of the countdowns. -/
theorem freezeCountdowns_eq : s.freezeCountdowns = s.setTriggers { s.triggers with
    countdowns := tabulate fun n =>
      if (s.record n).guard = false ∧ (s.countdown n).state = .running then { s.countdown n with state := .frozen }
      else s.countdown n } := by
  have frozen : ∀ n, (if (s.record n).guard = true then s.countdown n else (s.countdown n).freeze) =
      if (s.record n).guard = false ∧ (s.countdown n).state = .running then { s.countdown n with state := .frozen }
      else s.countdown n := fun n => by
    rw [Countdown.freeze_eq]
    cases (s.record n).guard <;> simp
  rw [freezeCountdowns, funext frozen]

variable {s}

/-- R75: an idle or faulted engine stays as it is. -/
theorem guardAbort_no_job (h : s.engine.state = .idle ∨ s.engine.state = .faulted) : s.guardAbort = s := by
  unfold guardAbort
  obtain h | h := h <;> rw [h]

theorem guardAbort_busy {j : Job} (h : s.engine.state = .busy j) :
    s.guardAbort = if (s.record j.slot).guard then s else s.abandonJob j := by rw [guardAbort, h]

/-! ## GUARD_ENTER (R177) -/

theorem guardEnter_guard (h : s.mode.mode = .guard) : s.guardEnter = .result s .guardActive := if_pos h

theorem guardEnter_active (h : s.mode.mode = .active) : s.guardEnter =
    if s.hasGuardSlot = false then .result s .noGuardSlots
    else if s.pinnedUnguarded then .result s .pinned
    else .result s.enterGuard .ok := by
  simp [guardEnter, h]

/-- The row of GUARD_ENTER, from what its effect ends with. -/
theorem exec_guardEnter {t : State} {arg : Byte} {r : ResultCode} (hr : Ready s) (h : s.guardEnter = .result t r) :
    exec (.guardEnter arg) s = .next (finished t 0x50 arg r) :=
  congrArg Host.Outcome.next (hostCommand_finished (c := .guardEnter) hr h)

end State

/-- Settles O48: the command ends with the first of its refusals that applies, else with the part in GUARD, where the job
in the engine is judged last. -/
theorem guardEnter : Obligations.GuardEnter := by
  refine fun s arg hr => ⟨fun hm => State.exec_guardEnter hr (State.guardEnter_guard hm), fun hm => ?_⟩
  have effect := State.guardEnter_active hm
  refine ⟨fun hn => ?noSlots, fun hs => ?slots⟩
  case noSlots => exact State.exec_guardEnter hr (effect.trans (if_pos (s.hasGuardSlot_false hn)))
  case slots =>
    intro unguarded
    replace effect := effect.trans (if_neg (by rw [s.hasGuardSlot_iff.2 hs]; exact Bool.noConfusion))
    refine ⟨fun hu => ?pinned, fun hu => ?entered⟩
    case pinned => exact State.exec_guardEnter hr (effect.trans (if_pos (s.pinnedUnguarded_iff.2 hu)))
    case entered =>
      intro base t
      replace effect := effect.trans (if_neg fun h => hu (s.pinnedUnguarded_iff.1 h))
      have hbase : s.guardEntered = base := by
        rw [State.guardEntered, State.freezeCountdowns_eq]
        rfl
      have ht : s.enterGuard = t := by
        rw [s.enterGuard_eq, hbase]
        cases he : s.engine.state with
        | idle => simp only [t, he, State.guardAbort_no_job (s := base) (.inl he)]
        | faulted => simp only [t, he, State.guardAbort_no_job (s := base) (.inr he)]
        | busy j =>
          simp only [t, he, State.guardAbort_busy (s := base) he]
          rfl
      exact State.exec_guardEnter hr (effect.trans (by rw [ht]))

end Sys2Proof.Machine
end

section
/-! PROOF. GUARD_EXIT and the exit itself: what is released at once is taken one by one in an order that a free value picks
(R45, R49, R160, R180 to R182). -/

namespace Sys2Proof.Machine

open Sys2Proof.Safety

theorem Countdown.thaw_eq (c : Countdown) :
    c.thaw = if c.state = .frozen then { c with state := .running } else c := by
  obtain ⟨state, left⟩ := c
  cases state <;> rfl

namespace State

variable (s : State)

/-! ## The count of orders picked (log 13)

No occurrence reads how many orders have been picked, and none changes it. -/

/-- The same part with another count of orders picked. -/
def withChoices (k : Nat) : State := { s with choices := k }

theorem grant_withChoices (k : Nat) : (s.withChoices k).grant = s.grant.withChoices k := by
  by_cases hi : s.engine.state = .idle
  · cases hu : s.queue.urgent with
    | cons e es => rw [grant_urgent hi hu, grant_urgent (s := s.withChoices k) hi hu]; rfl
    | nil =>
      cases hn : s.queue.normal with
      | cons e es => rw [grant_normal hi hu hn, grant_normal (s := s.withChoices k) hi hu hn]; rfl
      | nil => rw [grant_empty hu hn, grant_empty (s := s.withChoices k) hu hn]
  · rw [grant_of_not_idle hi, grant_of_not_idle (s := s.withChoices k) hi]

theorem request_withChoices (o : Origin) (n : SlotIx) (k : Nat) :
    (s.withChoices k).request o n = (s.request o n).withChoices k := by
  cases hq : s.queue.holds n with
  | true =>
    rw [request_of_holds o hq, request_of_holds (s := s.withChoices k) o hq]
    split <;> rfl
  | false =>
    rw [request_of_not_holds s hq, request_of_not_holds (s.withChoices k) hq]
    exact grant_withChoices (s.setQueue _) k

theorem raise_withChoices (o : Origin) (n : SlotIx) (k : Nat) :
    (s.withChoices k).raise o n = (s.raise o n).withChoices k := by
  rw [raise_eq, raise_eq, request_withChoices, apply_ite (withChoices · k)]
  rfl

theorem expire_withChoices (n : SlotIx) (k : Nat) : (s.withChoices k).expire n = (s.expire n).withChoices k := by
  cases ht : (s.record n).trigger with
  | periodic period phase =>
    rw [expire_periodic ht, expire_periodic (s := s.withChoices k) ht, ← raise_withChoices]
    rfl
  | hostOnly | follow | pin | pwm => simp only [expire, ht, show (s.withChoices k).record n = s.record n from rfl]

theorem countPoint_withChoices (c : ChIx) (n : SlotIx) (k : Nat) :
    countPoint c (s.withChoices k) n = (countPoint c s n).withChoices k := by
  rw [countPoint_eq, countPoint_eq, apply_ite (withChoices · k), ← request_withChoices]
  rfl

theorem triggerPoint_withChoices (c : ChIx) (k : Nat) :
    (s.withChoices k).triggerPoint c = (s.triggerPoint c).withChoices k :=
  List.foldl_hom (withChoices · k) fun t n => t.countPoint_withChoices c n k

theorem takeReleased_withChoices (o : Released) (k : Nat) :
    (s.withChoices k).takeReleased o = (s.takeReleased o).withChoices k := by
  cases o with
  | expiry n => exact s.expire_withChoices n k
  | point c => exact s.triggerPoint_withChoices c k

theorem foldl_takeReleased_withChoices (order : List Released) (k : Nat) :
    order.foldl takeReleased (s.withChoices k) = (order.foldl takeReleased s).withChoices k :=
  List.foldl_hom (withChoices · k) fun t o => t.takeReleased_withChoices o k

/-! ## The order (R45, R182) -/

/-- Of several occurrences one is taken first, and the others follow. -/
theorem takeAllReleased_several (m : Nat) (o p : Released) (os : List Released) :
    ∃ (i : Nat) (hi : i < (o :: p :: os).length), takeAllReleased (m + 1) (o :: p :: os) s =
      takeAllReleased m ((o :: p :: os).eraseIdx i)
        ((s.takeReleased (o :: p :: os)[i]).withChoices (s.choices + 1)) := by
  have hi : Config.exitPick s.choices % (o :: p :: os).length < (o :: p :: os).length := Nat.mod_lt _ (by simp)
  refine ⟨_, hi, ?_⟩
  rw [← takeReleased_withChoices, ← List.getD_eq_getElem _ o hi]
  rfl

/-- Each occurrence is taken exactly once, in some order. -/
theorem takeAllReleased_order (m : Nat) (os : List Released) (h : os.length ≤ m) : ∃ (order : List Released) (k : Nat),
    order.Perm os ∧ takeAllReleased m os s = (order.foldl takeReleased s).withChoices k := by
  induction m generalizing os s with
  | zero =>
    obtain rfl : os = [] := List.length_eq_zero_iff.1 (Nat.le_zero.1 h)
    exact ⟨[], s.choices, .rfl, rfl⟩
  | succ m ih =>
    match os with
    | [] => exact ⟨[], s.choices, .rfl, rfl⟩
    | [o] => exact ⟨[o], (s.takeReleased o).choices, .rfl, rfl⟩
    | o :: p :: os =>
      obtain ⟨i, hi, first⟩ := s.takeAllReleased_several m o p os
      have fewer : ((o :: p :: os).eraseIdx i).length ≤ m := by
        rw [List.length_eraseIdx_of_lt hi]
        exact Nat.sub_le_of_le_add h
      obtain ⟨order, k, hperm, rest⟩ := ih _ _ fewer
      refine ⟨_ :: order, k, (hperm.cons _).trans (List.getElem_cons_eraseIdx_perm hi), ?_⟩
      rw [first, rest, foldl_takeReleased_withChoices]
      rfl

/-! ## What is released -/

theorem nodup_released : s.released.Nodup := by
  refine List.Nodup.append ?_ ?_ ?_
  · exact ((List.nodup_finRange 32).filter _).map fun _ _ h => Released.expiry.inj h
  · exact ((List.nodup_finRange 4).filter _).map fun _ _ h => Released.point.inj h
  · intro o he hp
    obtain ⟨_, -, rfl⟩ := List.mem_map.1 he
    obtain ⟨_, -, h⟩ := List.mem_map.1 hp
    cases h

theorem expiry_mem_released (n : SlotIx) :
    .expiry n ∈ s.released ↔ (s.countdown n).state = .frozen ∧ (s.countdown n).left = 0 := by
  simp [released, timeIsUp]

theorem point_mem_released (c : ChIx) :
    .point c ∈ s.released ↔ (s.channel c).cfg.enable = true ∧ (s.channel c).cfg.trig = 0 := by
  simp [released]

/-- R180 to R182: the part as the exit finds it, before what it releases is taken. -/
def guardLeft (cause : ExitCause) : State :=
  ((s.setMode { s.mode with mode := .active, lastExit := cause }).occur .guardLeft).thawCountdowns.startChannels

theorem leaveGuard_eq (cause : ExitCause) :
    s.leaveGuard cause = takeAllReleased s.released.length s.released (s.guardLeft cause) := rfl

/-! ## GUARD_EXIT (R180) -/

variable {s}

theorem guardExit_active (h : s.mode.mode = .active) : s.guardExit = .result s .notInGuard := by rw [guardExit, h]

theorem guardExit_guard (h : s.mode.mode = .guard) : s.guardExit = .result (s.leaveGuard .host) .ok := by
  rw [guardExit, h]

/-- The row of GUARD_EXIT, from what its effect ends with. -/
theorem exec_guardExit {t : State} {arg : Byte} {r : ResultCode} (hr : Ready s) (h : s.guardExit = .result t r) :
    exec (.guardExit arg) s = .next (finished t 0x51 arg r) :=
  congrArg Host.Outcome.next (hostCommand_finished (c := .guardExit) hr h)

end State

/-- Settles O49: the released occurrences are those of the statement, and they are taken in some order. -/
theorem guardExit : Obligations.GuardExit := by
  refine ⟨fun s arg hr => ⟨?refused, ?left⟩, fun s n => ?expiry, fun _ _ => rfl, fun s cause => ?exit⟩
  case refused => exact fun h => State.exec_guardExit hr (State.guardExit_active h)
  case left => exact fun h => State.exec_guardExit hr (State.guardExit_guard h)
  case expiry =>
    change s.expire n = _
    cases ht : (s.record n).trigger with
    | periodic period phase =>
      rw [State.expire_periodic ht, State.reload_eq, State.raise_eq]
      rfl
    | hostOnly | follow | pin | pwm => simp only [State.expire, ht]
  case exit =>
    intro base
    have hbase : s.guardLeft cause = base := by
      simp only [State.guardLeft, State.thawCountdowns, Countdown.thaw_eq]
      rfl
    obtain ⟨order, k, hperm, htaken⟩ := (s.guardLeft cause).takeAllReleased_order _ s.released le_rfl
    refine ⟨order, k, hperm.nodup_iff.2 s.nodup_released, fun n => ?_, fun c => ?_, ?_⟩
    · rw [hperm.mem_iff, s.expiry_mem_released]
    · rw [hperm.mem_iff, s.point_mem_released]
    · rw [s.leaveGuard_eq, htaken, hbase]
      rfl

end Sys2Proof.Machine
end

section
/-! PROOF. GUARD_CTRL and GUARD_STATUS, the four live registers, and FAULT with its pin (R170, R171, R173, R175, R176). -/

namespace Sys2Proof.Machine

open Sys2Proof.Safety

theorem Mode.code_bit (m : Mode) : m.code = bit (decide (m = .guard)) := by cases m <;> rfl

theorem RuleState.active_iff (x : RuleState) : x.active = true ↔ x = .tripped ∨ x = .releasing ∨ x = .latched := by
  cases x <;> simp [active]

/-! ## GUARD_STATUS (R175) -/

section Status

variable (m : ModeControl)

theorem mode_statusWord : m.statusWord.getLsbD 0 = decide (m.mode = .guard) := by
  rw [ModeControl.statusWord, Mode.code_bit, getLsbD_bit]

theorem cause_statusWord : field m.statusWord 1 2 = m.lastExit.code := by
  rw [ModeControl.statusWord, field_up _ _ 0, field_lo]

theorem rule_statusWord : field m.statusWord 3 4 = m.lastExit.rule := by
  rw [ModeControl.statusWord, field_up _ _ 2, field_up _ _ 0, field_lo]

end Status

namespace State

variable (s : State)

/-! ## The four live registers (R173) -/

theorem liveRules_bit (n : RuleIx) : s.liveRules.getLsbD n = (s.ruleRt n).state.active := getLsbD_marks ..

theorem faultRules_bit (n : RuleIx) : s.faultRules.getLsbD n = s.ruleFaults n := getLsbD_marks ..

theorem liveSwitches_field (k : SwIx) : field s.liveSwitches (3 * k) 3 = (s.switch k).state.code := by
  rw [liveSwitches]
  match k with
  | 0 => exact field_lo ..
  | 1 => exact (field_up _ _ 0 3).trans (field_lo ..)
  | 2 => exact (field_up _ _ 3 3).trans ((field_up _ _ 0 3).trans (field_lo ..))
  | 3 => exact (field_up _ _ 6 3).trans ((field_up _ _ 3 3).trans ((field_up _ _ 0 3).trans (field_lo ..)))

theorem engine_liveCore : field s.liveCore 0 2 = s.engine.state.code := by rw [liveCore, field_lo]

theorem mode_liveCore : s.liveCore.getLsbD 2 = decide (s.mode.mode = .guard) := by
  rw [liveCore, getLsbD_up _ _ 0, Mode.code_bit, getLsbD_bit]

theorem fault_liveCore : s.liveCore.getLsbD 3 = s.events.fault := by
  rw [liveCore, getLsbD_up _ _ 1, getLsbD_up _ _ 0, getLsbD_bit]

theorem irq_liveCore : s.liveCore.getLsbD 4 = s.events.irq := by
  rw [liveCore, getLsbD_up _ _ 2, getLsbD_up _ _ 1, getLsbD_up _ _ 0, getLsbD_bit]

theorem pulse_liveCore : s.liveCore.getLsbD 5 = s.events.pulse.isSome := by
  rw [liveCore, getLsbD_up _ _ 3, getLsbD_up _ _ 2, getLsbD_up _ _ 1, getLsbD_up _ _ 0, getLsbD_bit]

/-- Log 24. -/
theorem switch_liveCore (k : SwIx) : s.liveCore.getLsbD (6 + k) = s.switchFaults k := by
  have bits : s.liveCore.getLsbD (6 + k) = (0#6 ++ marks 4 s.switchFaults).getLsbD k := by
    rw [liveCore, show 6 + k.val = 2 + (1 + (1 + (1 + (1 + k)))) by omega, getLsbD_up, getLsbD_up, getLsbD_up, getLsbD_up,
      getLsbD_up]
  rw [bits, BitVec.getLsbD_append, if_pos k.isLt, getLsbD_marks]

/-! ## The causes of FAULT (R171) -/

theorem ruleFaults_iff (n : RuleIx) :
    s.ruleFaults n = true ↔ (s.ruleRt n).state.active = true ∧ (s.rule n).fault = true := Bool.and_eq_true_iff

theorem switchFaults_iff (k : SwIx) :
    s.switchFaults k = true ↔ (s.switch k).state = .lockout ∧ (s.switch k).cfg.lockoutFault = true := by
  simp [switchFaults]

theorem faultRules_ne_zero : s.faultRules ≠ 0 ↔ ∃ n, s.ruleFaults n = true := by
  have both := and_ne_zero_iff s.faultRules s.faultRules
  rw [BitVec.and_self] at both
  rw [both]
  simp only [faultRules_bit, and_self]

/-- The condition as the registers show its causes. -/
theorem faultLaw_iff_shown : FaultLaw s ↔
    (s.liveCore.getLsbD 3 = true ↔ s.faultRules ≠ 0 ∨ ∃ k : SwIx, s.liveCore.getLsbD (6 + k) = true) := by
  simp only [FaultLaw, fault_liveCore, faultRules_ne_zero, switch_liveCore, ruleFaults_iff, switchFaults_iff]

/-! ## GUARD_CTRL (R176) -/

variable {s}

theorem exec_guardCtrlWrite (hr : Ready s) (d : Word) :
    exec (.registerWrite 0xD0 d) s = .next (answered (writeGuardCtrl d s) 0xD0 d) :=
  congrArg Host.Outcome.next <| (hostAccess_ready hr _).trans <|
    (windowWrite_reg hr .guardCtrl d nofun rfl).trans (hostWrite_answered hr _ d _)

end State

/-- Settles O50: the write of GUARD_CTRL, each register's word taken apart into its fields, and FAULT as its causes show
it. -/
theorem statusRegisters : Obligations.StatusRegisters := by
  refine ⟨fun s d => ⟨fun hr => ?write, ?stretch, ?mode, ?cause, ?rule⟩,
    fun s => ⟨fun n => ?active, fun n => ?faulting, fun k => ?switches, ?core, (s.faultLaw_iff_shown).1, by decide,
      by decide, by decide, by decide, .rfl, rfl, FaultLaw.faultUpdate s⟩⟩
  case write =>
    rw [State.exec_guardCtrlWrite hr, State.writeGuardCtrl, field, ← BitVec.setWidth_eq_extractLsb' (by decide)]
    rfl
  case stretch =>
    simp [shows, Reg.value]
    omega
  case mode => rw [Reg.value, mode_statusWord, decide_eq_true_iff]
  case cause =>
    rw [Reg.value, cause_statusWord]
    cases s.mode.lastExit <;> rfl
  case rule =>
    rw [Reg.value, rule_statusWord]
    cases s.mode.lastExit <;> rfl
  case active => rw [Reg.value, s.liveRules_bit, RuleState.active_iff]
  case faulting => rw [Reg.value, s.faultRules_bit, s.ruleFaults_iff]
  case switches => rw [Reg.value, s.liveSwitches_field, SwitchState.toNat_code]
  case core =>
    intro v
    have hv : v = s.liveCore := rfl
    refine ⟨s.engine_liveCore.trans ?_, ?_, s.fault_liveCore, s.irq_liveCore, ?_, fun k => ?_⟩
    · cases s.engine.state <;> rfl
    · rw [hv, s.mode_liveCore, decide_eq_true_iff]
    · rw [hv, s.pulse_liveCore, Option.isSome_iff_ne_none]
    · rw [hv, s.switch_liveCore, s.switchFaults_iff]

end Sys2Proof.Machine
end

section
/-! PROOF. The reset values of every block and the laws in them, the three resets and the end of a reset, and RESET_CAUSE
(R3, R51, R97, R129, R150, R187, R194, R195). -/

namespace Sys2Proof.Machine

open Sys2Proof.Safety

namespace State

variable (s : State)

/-! ## What a reset leaves -/

/-- The part right after power-on is what a power-on reset leaves of it. -/
theorem reset_eq_resetAll : State.reset = State.reset.resetAll .por false := rfl

/-- R3 to R195: every block takes its reset value, whatever the part held. -/
theorem resetAll_values (cause : ResetCause) (inReset : Bool) :
    ResetValues s.triggers.pinLevel cause (s.resetAll cause inReset) where
  records := by simp [resetAll, reset, record, SlotRecord.reset]
  runtime := by simp [resetAll, reset, slotRt, SlotRuntime.reset]
  staging := by
    refine ⟨rfl, rfl, rfl, fun r => ?_, rfl⟩
    change Staging.reset.read r = _
    cases r <;> decide
  triggers := by simp [resetAll, TriggerSources.reset, countdown, Countdown.reset, decim]
  queue := rfl
  engine := ⟨rfl, rfl, rfl, rfl⟩
  results := ⟨by simp [resetAll, reset, result, ResultStore.reset, ResultRecord.reset], rfl, rfl, rfl⟩
  fifo := rfl
  rules := by simp [resetAll, reset, rule, WatchRecord.reset]
  ruleRuntime := by simp [resetAll, reset, ruleRt, RuleRuntime.reset]
  tripLog := rfl
  switches := by simp [resetAll, reset, switch, Switch.reset]
  pwm := by simp [resetAll, reset, channel, Channel.reset]
  events := rfl
  mode := rfl
  port := ⟨rfl, rfl, rfl, rfl, rfl⟩

/-! ## SOFT_RESET (R120, R194) -/

theorem anyPinned_iff : s.anyPinned = true ↔ ∃ n, (s.rule n).pinned = true := by simp [anyPinned]

variable {s}

theorem softReset_pinned (h : ∃ n, (s.rule n).pinned = true) : s.softReset = .result s .pinned :=
  if_pos (s.anyPinned_iff.2 h)

theorem softReset_taken (h : ∀ n, (s.rule n).pinned = false) : s.softReset = .reset (s.resetAll .soft false) :=
  if_neg fun hp => by
    obtain ⟨n, hn⟩ := s.anyPinned_iff.1 hp
    exact Bool.false_ne_true ((h n).symm.trans hn)

/-! ## RESET_END and RESET_CAUSE (R51, R187, R195) -/

theorem resetEnd_inReset (h : s.port.inReset = true) : s.resetEnd = { s with
    triggers := { s.triggers with pinRef := s.triggers.pinLevel }
    port := { s.port with inReset := false } } := if_pos h

theorem resetEnd_ready (h : Ready s) : s.resetEnd = s := if_neg (Bool.eq_false_iff.1 h)

theorem resetCauseValue_eq : s.resetCauseValue = match s.port.resetCause with
    | .por => 1
    | .pin => 2
    | .soft => 3 := by
  unfold resetCauseValue
  cases s.port.resetCause <;> rfl

end State

/-- Settles O2: State.reset is what a reset leaves, and each law holds after every reset. -/
theorem resetState : Obligations.ResetState := by
  refine ⟨⟨State.reset.resetAll_values .por false, rfl, rfl, rfl⟩, ?_⟩
  rw [State.reset_eq_resetAll]
  have logs : LogLaws (State.reset.resetAll .por false) := ⟨fifoLaw_reset, tripLogLaw_nil ..⟩
  exact ⟨State.queueLaw_resetAll .., tableLaw_resetAll .., triggerLaw_resetAll _ _ _,
    ruleLaw_iff.2 (RulesLaw.resetAll ..), PinnedLaw.resetAll _ _ _, FaultLaw.resetAll .., SwitchesLaw.resetAll _ _ _,
    pwmLaw_iff.2 (ChannelsLaw.resetAll _ _ _), logs.fifo, logs.log, (resultsLaw_resetAll ..).each⟩

/-- Settles O3: the resets from outside are one operation with two causes; RESET_END and the read of RESET_CAUSE case by
case. -/
theorem resetRows : Obligations.ResetRows := by
  refine ⟨fun s => ⟨?powerOn, ?resetn, fun h => ?ends, fun h => ?idle⟩, fun s => ⟨fun hr => ?cause, rfl, .rfl⟩⟩
  case powerOn => exact ⟨_, rfl, s.resetAll_values .por true, rfl, rfl, rfl⟩
  case resetn => exact ⟨_, rfl, s.resetAll_values _ true, rfl, rfl, rfl⟩
  case ends => exact congrArg Host.Outcome.next (State.resetEnd_inReset h)
  case idle => exact congrArg Host.Outcome.next (State.resetEnd_ready h)
  case cause =>
    have row := State.hostRead_answered hr 0x00 State.clearIndication State.resetCauseValue
    exact congrArg Host.Outcome.next (row.trans (congrArg _ State.resetCauseValue_eq))

/-- Settles O4: a pinned rule is a refusal; without one the command ends in the reset itself, with no result of its
own. -/
theorem softReset : Obligations.SoftReset := by
  refine fun s arg hr => ⟨fun hp => ?refused, fun hn => ⟨s.resetAll .soft false, ?row, ?after⟩⟩
  case refused =>
    exact congrArg Host.Outcome.next (State.hostCommand_finished (c := .softReset) hr (State.softReset_pinned hp))
  case row =>
    exact congrArg Host.Outcome.next
      ((State.hostCommand_ready hr ..).trans (State.takeCommand_reset (State.softReset_taken hn)))
  case after => exact ⟨s.resetAll_values .soft false, rfl, rfl, rfl⟩

end Sys2Proof.Machine
end

section
/-! PROOF. The check of a frame as the remainder of a division by x⁴ + x + 1, acceptance, and the layout of a response
(R186, R188, R189). -/

namespace Sys2Proof.Safety

open Sys2Proof.Machine

/-! ## Multiples of x⁴ + x + 1 -/

/-- The product of a polynomial with x⁴ + x + 1, over the field of two elements. -/
def timesGenerator (q : BitVec 28) : BitVec 32 := (q.setWidth 32 <<< 4) ^^^ (q.setWidth 32 <<< 1) ^^^ q.setWidth 32

theorem multipleOfGenerator_iff (w : BitVec 32) : MultipleOfGenerator w ↔ ∃ q, w = timesGenerator q := .rfl

theorem timesGenerator_zero : timesGenerator 0 = 0 := by decide

theorem timesGenerator_xor (p q : BitVec 28) : timesGenerator (p ^^^ q) = timesGenerator p ^^^ timesGenerator q := by
  simp only [timesGenerator, BitVec.setWidth_xor, BitVec.shiftLeft_xor_distrib]
  ac_rfl

/-- The coefficients of a product. -/
theorem getLsbD_timesGenerator (q : BitVec 28) {j : Nat} (hj : j < 32) : (timesGenerator q).getLsbD j =
    ((!decide (j < 4) && q.getLsbD (j - 4)) ^^ (!decide (j < 1) && q.getLsbD (j - 1)) ^^ q.getLsbD j) := by
  simp only [timesGenerator, BitVec.getLsbD_xor, BitVec.getLsbD_shiftLeft, BitVec.getLsbD_setWidth, hj,
    show j - 4 < 32 by omega, show j - 1 < 32 by omega, decide_true, Bool.true_and]

/-- The degree of a product is that of its quotient and four more. -/
theorem quotient_high {q : BitVec 28} {n : Nat} (h : ∀ j, n ≤ j → (timesGenerator q).getLsbD j = false) (j : Nat)
    (hj : n ≤ j + 4) : q.getLsbD j = false := by
  induction k : 28 - j using Nat.strong_induction_on generalizing j with
  | _ k ih =>
    by_cases hlt : j < 28
    · have hbit := getLsbD_timesGenerator q (j := j + 4) (by omega)
      have h3 := ih _ (by omega) (j + 3) (by omega) rfl
      have h4 := ih _ (by omega) (j + 4) (by omega) rfl
      rw [h _ hj] at hbit
      simpa [h3, h4] using hbit.symm
    · exact BitVec.getLsbD_of_ge _ _ (by omega)

/-- A product begins where its quotient begins. -/
theorem quotient_low {q : BitVec 28} {n : Nat} (h : ∀ j < n, (timesGenerator q).getLsbD j = false) (hn : n ≤ 32)
    (j : Nat) (hj : j < n) : q.getLsbD j = false := by
  induction j using Nat.strong_induction_on with
  | _ j ih =>
    have hbit := getLsbD_timesGenerator q (j := j) (by omega)
    have lower : ∀ k, 0 < k → (!decide (j < k) && q.getLsbD (j - k)) = false := fun k hk => by
      by_cases hlt : j < k
      · simp [hlt]
      · simp [ih (j - k) (by omega) (by omega)]
    rw [h _ hj, lower 4 (by omega), lower 1 (by omega)] at hbit
    simpa using hbit.symm

theorem eq_zero_of_bits {q : BitVec 28} (h : ∀ j, q.getLsbD j = false) : q = 0 :=
  bits_ext fun j => (h j).trans BitVec.getLsbD_zero.symm

theorem MultipleOfGenerator.zero : MultipleOfGenerator 0 := ⟨0, timesGenerator_zero.symm⟩

theorem MultipleOfGenerator.xor {v w : BitVec 32} (hv : MultipleOfGenerator v) (hw : MultipleOfGenerator w) :
    MultipleOfGenerator (v ^^^ w) := by
  obtain ⟨p, rfl⟩ := (multipleOfGenerator_iff v).1 hv
  obtain ⟨q, rfl⟩ := (multipleOfGenerator_iff w).1 hw
  exact ⟨p ^^^ q, (timesGenerator_xor p q).symm⟩

/-- The generator itself, moved up. -/
theorem MultipleOfGenerator.shifted {m : Nat} (hm : m < 28) : MultipleOfGenerator (0b10011#32 <<< m) :=
  ⟨BitVec.twoPow 28 m, by
    have all : ∀ m : Fin 28, 0b10011#32 <<< m.val = timesGenerator (BitVec.twoPow 28 m) := by decide
    exact all ⟨m, hm⟩⟩

/-- A remainder that is a multiple is 0: its degree is below the generator's. -/
theorem MultipleOfGenerator.remainder {c : BitVec 4} (h : MultipleOfGenerator (c.setWidth 32)) : c = 0 := by
  obtain ⟨q, hq⟩ := (multipleOfGenerator_iff _).1 h
  have high : ∀ j, 4 ≤ j → (timesGenerator q).getLsbD j = false := fun j hj => by
    rw [← hq, BitVec.getLsbD_setWidth, BitVec.getLsbD_of_ge _ _ hj, Bool.and_false]
  have hzero : q = 0 := eq_zero_of_bits fun j => quotient_high high j (by omega)
  rw [hzero, timesGenerator_zero] at hq
  have widened : ∀ c : BitVec 4, c.setWidth 32 = 0#32 → c = 0 := by decide
  exact widened c hq

/-- No power of x is a multiple: its quotient would have no place for a bit. -/
theorem not_multipleOfGenerator_twoPow (i : Fin 32) : ¬ MultipleOfGenerator (BitVec.twoPow 32 i) := by
  intro h
  obtain ⟨q, hq⟩ := (multipleOfGenerator_iff _).1 h
  have other : ∀ j, j ≠ i.val → (timesGenerator q).getLsbD j = false := fun j hj => by
    rw [← hq, BitVec.getLsbD_twoPow, decide_eq_false (Ne.symm hj), Bool.and_false]
  have hzero : q = 0 := eq_zero_of_bits fun j => by
    by_cases hj : j < i
    · exact quotient_low (n := i) (fun k hk => other k (by omega)) (by omega) j hj
    · exact quotient_high (n := i + 1) (fun k hk => other k (by omega)) j (by omega)
  rw [hzero, timesGenerator_zero] at hq
  have none : ∀ i : Fin 32, BitVec.twoPow 32 i ≠ 0 := by decide
  exact none i hq

end Sys2Proof.Safety

namespace Sys2Proof.Machine

open Sys2Proof.Safety

/-! ## The check register (R186) -/

/-- The register after the lowest `m` bits of `x`, the highest of them first. -/
def runCheck (x : BitVec 28) (r : BitVec 4) : Nat → BitVec 4
  | 0 => r
  | m + 1 => runCheck x (checkStep r (x.getLsbD m)) m

theorem check_eq_runCheck (x : BitVec 28) : check x = runCheck x 0b1111#4 28 := rfl

/-- 28 zeros carry 1111b through the register to 0111b, the check of 11.1's worked frame. -/
theorem check_zero : check 0 = 7 := by simp [check_eq_runCheck, runCheck, checkStep]

/-- One step of the register takes a multiple of the generator away: none, or the generator itself. -/
theorem checkStep_remainder (r : BitVec 4) (b : Bool) :
    (r.setWidth 32 <<< 1) ^^^ (checkStep r b).setWidth 32 ^^^ ((bit b).setWidth 32 <<< 4) =
      if (b ^^ r.getLsbD 3) then 0b10011#32 else 0#32 := by
  cases b <;> revert r <;> decide

/-- The lowest `m + 1` bits of a word are bit `m` and those below it. -/
theorem low_bits_succ (x : BitVec 28) {m : Nat} (hm : m < 28) :
    (x.setWidth (m + 1)).setWidth 32 = ((bit (x.getLsbD m)).setWidth 32 <<< m) ^^^ (x.setWidth m).setWidth 32 := by
  refine bits_ext fun j => ?_
  have hw := j.isLt
  simp only [BitVec.getLsbD_xor, BitVec.getLsbD_shiftLeft, BitVec.getLsbD_setWidth, hw, show j.val - m < 32 by omega,
    decide_true, Bool.true_and]
  obtain hj | hj | hj := Nat.lt_trichotomy j m
  · simp [hj, Nat.lt_succ_of_lt hj]
  · simp [hj]
  · simp [show ¬ j.val < m + 1 by omega, show ¬ j.val < m by omega, show j.val - m ≠ 0 by omega]

theorem xor_xor_cancel {n : Nat} (a b k : BitVec n) : (a ^^^ k) ^^^ (b ^^^ k) = a ^^^ b :=
  calc (a ^^^ k) ^^^ (b ^^^ k) = (a ^^^ b) ^^^ (k ^^^ k) := by ac_rfl
    _ = a ^^^ b := by rw [BitVec.xor_self, BitVec.xor_zero]

/-- A sum with the register after a step, and what the step takes away: that register drops out. -/
theorem xor_exchange {n : Nat} (a b c d e : BitVec n) :
    (a ^^^ b ^^^ c) ^^^ (d ^^^ a ^^^ e) = d ^^^ (e ^^^ b) ^^^ c :=
  calc (a ^^^ b ^^^ c) ^^^ (d ^^^ a ^^^ e) = (a ^^^ a) ^^^ (d ^^^ (e ^^^ b) ^^^ c) := by ac_rfl
    _ = d ^^^ (e ^^^ b) ^^^ c := by rw [BitVec.xor_self, BitVec.zero_xor]

/-- The register holds the remainder of what it began with and the bits it has taken: a bit taken and the change of the
register together are a multiple, by `checkStep_remainder`. -/
theorem runCheck_remainder (x : BitVec 28) (r : BitVec 4) {m : Nat} (hm : m ≤ 28) : MultipleOfGenerator
    ((r.setWidth 32 <<< m) ^^^ ((x.setWidth m).setWidth 32 <<< 4) ^^^ (runCheck x r m).setWidth 32) := by
  induction m generalizing r with
  | zero =>
    have hx : (x.setWidth 0).setWidth 32 = 0#32 := by rw [BitVec.eq_nil (x.setWidth 0)]; rfl
    rw [hx]
    simpa [runCheck] using MultipleOfGenerator.zero
  | succ m ih =>
    have rest := ih (checkStep r (x.getLsbD m)) (by omega)
    have taken : MultipleOfGenerator (((r.setWidth 32 <<< 1) ^^^ (checkStep r (x.getLsbD m)).setWidth 32 ^^^
        ((bit (x.getLsbD m)).setWidth 32 <<< 4)) <<< m) := by
      rw [checkStep_remainder]
      split
      · exact .shifted (by omega)
      · rw [BitVec.zero_shiftLeft]
        exact .zero
    have sum := rest.xor taken
    rw [BitVec.shiftLeft_xor_distrib, BitVec.shiftLeft_xor_distrib, ← BitVec.shiftLeft_add, ← BitVec.shiftLeft_add,
      xor_exchange, Nat.add_comm 1 m, Nat.add_comm 4 m, BitVec.shiftLeft_add _ m 4, ← BitVec.shiftLeft_xor_distrib,
      ← low_bits_succ x (by omega)] at sum
    exact sum

/-- A word with a check below it, as a sum. -/
theorem append_eq_xor (x : BitVec 28) (c : BitVec 4) : x ++ c = (x.setWidth 32 <<< 4) ^^^ c.setWidth 32 := by
  refine bits_ext fun j => ?_
  have hj := j.isLt
  simp only [BitVec.getLsbD_append, BitVec.getLsbD_xor, BitVec.getLsbD_shiftLeft, BitVec.getLsbD_setWidth, hj,
    show j.val - 4 < 32 by omega, decide_true, Bool.true_and]
  by_cases h : j.val < 4
  · simp [h]
  · rw [if_neg h, decide_eq_false h, BitVec.getLsbD_of_ge c _ (by omega), Bool.not_false, Bool.true_and, Bool.xor_false]

/-- R186: the bits with their check below them, and 1111b added to the first four, are a multiple. -/
theorem check_multiple (x : BitVec 28) : MultipleOfGenerator ((x ++ check x) ^^^ 0xF0000000#32) := by
  have h := runCheck_remainder x 0b1111#4 (m := 28) le_rfl
  rw [← check_eq_runCheck, BitVec.setWidth_eq, show (0b1111#4).setWidth 32 <<< 28 = 0xF0000000#32 by decide,
    BitVec.xor_assoc, ← append_eq_xor, BitVec.xor_comm] at h
  exact h

/-- R186: no other check makes them one. -/
theorem eq_check_iff (x : BitVec 28) (c : BitVec 4) :
    c = check x ↔ MultipleOfGenerator ((x ++ c) ^^^ 0xF0000000#32) := by
  refine ⟨fun h => h ▸ check_multiple x, fun h => ?_⟩
  have diff : ((x ++ c) ^^^ 0xF0000000#32) ^^^ ((x ++ check x) ^^^ 0xF0000000#32) = (c ^^^ check x).setWidth 32 := by
    rw [xor_xor_cancel, append_eq_xor, append_eq_xor, BitVec.xor_comm _ (c.setWidth 32),
      BitVec.xor_comm _ ((check x).setWidth 32), xor_xor_cancel, BitVec.setWidth_xor]
  exact BitVec.xor_eq_zero_iff.1 (diff ▸ h.xor (check_multiple x)).remainder

/-- R186 as it is written: the register moves up, and is combined with 0011b where the incoming bit and the top
bit differ. -/
theorem check_eq_foldl (x : BitVec 28) : check x = (List.range 28).foldl (fun (r : BitVec 4) k =>
    if x.getLsbD (27 - k) = r.getLsbD 3 then r <<< 1 else (r <<< 1) ^^^ 0b0011#4) 0b1111#4 := by
  rw [check, ← List.map_coe_finRange_eq_range, List.foldl_map]
  congr 1
  funext r i
  unfold checkStep
  cases x.getLsbD (27 - i.val) <;> cases r.getLsbD 3 <;> rfl

/-! ## Acceptance (R186) -/

theorem frameAccepted_iff (w : BitVec 32) :
    frameAccepted w = true ↔ field w 28 3 = 0 ∧ MultipleOfGenerator (w ^^^ 0xF0000000#32) := by
  have parts : field w 4 28 ++ field w 0 4 = w := (field_join w 0 28 4).trans (field_whole w)
  rw [frameAccepted, Bool.and_eq_true, beq_iff_eq, beq_iff_eq, eq_check_iff, parts, and_comm]

/-- Two accepted frames differ by a multiple of the generator, and one bit is none. -/
theorem frameAccepted_flip (w : BitVec 32) (i : Fin 32) (h : frameAccepted w = true) :
    frameAccepted (w ^^^ BitVec.twoPow 32 i) = false := by
  rw [Bool.eq_false_iff]
  intro hflip
  obtain ⟨-, hw⟩ := (frameAccepted_iff w).1 h
  obtain ⟨-, hv⟩ := (frameAccepted_iff _).1 hflip
  have diff : (w ^^^ 0xF0000000#32) ^^^ ((w ^^^ BitVec.twoPow 32 i) ^^^ 0xF0000000#32) = BitVec.twoPow 32 i := by
    rw [xor_xor_cancel, ← BitVec.xor_assoc, BitVec.xor_self, BitVec.zero_xor]
  exact not_multipleOfGenerator_twoPow i (diff ▸ hw.xor hv)

/-! ## Responses (R188, R189) -/

namespace Response

variable (r : Response)

theorem rej_word : r.word.getLsbD 31 = r.rej := by
  rw [word, withCheck, getLsbD_up _ _ 27, getLsbD_up _ _ 11, getLsbD_up _ _ 3, getLsbD_up _ _ 2, getLsbD_up _ _ 1,
    getLsbD_up _ _ 0]
  exact BitVec.getLsbD_ofBool r.rej 0

theorem rst_word : r.word.getLsbD 30 = r.rst := by
  rw [word, withCheck, getLsbD_up _ _ 26, getLsbD_up _ _ 10, getLsbD_up _ _ 2, getLsbD_up _ _ 1, getLsbD_up _ _ 0,
    getLsbD_bit]

theorem irq_word : r.word.getLsbD 29 = r.irq := by
  rw [word, withCheck, getLsbD_up _ _ 25, getLsbD_up _ _ 9, getLsbD_up _ _ 1, getLsbD_up _ _ 0, getLsbD_bit]

theorem flt_word : r.word.getLsbD 28 = r.flt := by
  rw [word, withCheck, getLsbD_up _ _ 24, getLsbD_up _ _ 8, getLsbD_up _ _ 0, getLsbD_bit]

theorem check_word : field r.word 0 4 = check (field r.word 4 28) := by rw [word, withCheck, field_lo, field_hi]

end Response

/-- Settles O6: the register keeps a remainder, and no remainder but 0 is a multiple; so a frame is accepted as a
multiple, and one bit is no multiple. -/
theorem checkAndResponse : Obligations.CheckAndResponse := by
  refine ⟨⟨eq_check_iff, check_eq_foldl, frameAccepted_iff, frameAccepted_flip, ?worked⟩, fun r => ?layout⟩
  case worked =>
    rw [readFrame, show 0b0000#4 ++ (0x00 : Byte) ++ (0 : Word) = 0 by decide, withCheck, check_zero]
    rfl
  case layout =>
    exact ⟨r.rej_word, r.rst_word, r.irq_word, r.flt_word, addr_withCheck .., data_withCheck .., r.check_word⟩

end Sys2Proof.Machine
end

section
/-! SUPPORT. The window by address and code, both ways (11.6), and every row of the host as the access of the window that
its frame carries (R186, R190 to R192). -/

namespace Sys2Proof.Machine

open Sys2Proof.Safety

/-! ## Addresses and codes -/

theorem Reg.ofSingle_some {a : Nat} {r : Reg} (h : Reg.ofSingle a = some r) : regAddr r = BitVec.ofNat 8 a := by
  unfold Reg.ofSingle at h
  split at h <;> cases h <;> rfl

theorem Reg.ofSwitch_some {n : SwIx} {k : Nat} {r : Reg} (h : Reg.ofSwitch n k = some r) :
    regAddr r = Safety.ofSwitch (0x60 + k) n := by
  unfold Reg.ofSwitch at h
  split at h <;> cases h <;> rfl

theorem Reg.ofChannel_some {c : ChIx} {k : Nat} {r : Reg} (h : Reg.ofChannel c k = some r) :
    regAddr r = Safety.ofChannel (0x80 + k) c := by
  unfold Reg.ofChannel at h
  split at h <;> cases h <;> rfl

/-- The decoder of addresses finds only the register that stands there. -/
theorem regAddr_of_ofAddr {addr : Byte} {r : Reg} (h : Reg.ofAddr addr = some r) : regAddr r = addr := by
  have digits : ∀ k, (field addr k 2).toFin.val = addr.toNat / 2 ^ k % 4 := fun k => by
    simp [Nat.shiftRight_eq_div_pow]
  simp only [Reg.ofAddr] at h
  split at h
  · rw [Reg.ofSwitch_some h, ofSwitch, digits]
    refine BitVec.eq_of_toNat_eq ?_
    rw [BitVec.toNat_ofNat]
    omega
  · split at h
    · rw [Reg.ofChannel_some h, ofChannel, digits]
      refine BitVec.eq_of_toNat_eq ?_
      rw [BitVec.toNat_ofNat]
      omega
    · rw [Reg.ofSingle_some h, BitVec.ofNat_toNat, BitVec.setWidth_eq]

theorem ofAddr_eq_some_iff (addr : Byte) (r : Reg) : Reg.ofAddr addr = some r ↔ regAddr r = addr :=
  ⟨regAddr_of_ofAddr, fun h => h ▸ ofAddr_regAddr r⟩

theorem ofAddr_eq_none {addr : Byte} (h : ∀ r, regAddr r ≠ addr) : Reg.ofAddr addr = none :=
  Option.eq_none_iff_forall_ne_some.2 fun r hr => h r (regAddr_of_ofAddr hr)

/-- The decoder of codes finds only the command that a code names. -/
theorem Command.code_of_ofCode {b : Byte} {c : Command} (h : Command.ofCode b = some c) : c.code = b := by
  unfold Command.ofCode at h
  split at h <;> try cases h
  all_goals
    next hb => exact BitVec.eq_of_toNat_eq hb.symm

theorem Command.code_mem (c : Command) : c.code ∈ commandCodes := by cases c <;> decide

theorem Command.ofCode_eq_none {b : Byte} (h : b ∉ commandCodes) : Command.ofCode b = none :=
  Option.eq_none_iff_forall_ne_some.2 fun c hc => h (Command.code_of_ofCode hc ▸ c.code_mem)

/-! ## The registers that are written and read -/

theorem Reg.writeEffect_isSome (r : Reg) (d : Word) : (r.writeEffect d).isSome = writable r := by cases r <;> rfl

theorem Reg.writeEffect_eq_none {r : Reg} (h : writable r = false) (d : Word) : r.writeEffect d = none := by
  rw [← Option.isNone_iff_eq_none, ← Option.not_isSome, Reg.writeEffect_isSome, h, Bool.not_false]

/-- R190: the five reads with an effect of their own. -/
theorem Reg.readEffect_plain {r : Reg} (h1 : r ≠ .timeLo) (h2 : r ≠ .queueEntry) (h3 : r ≠ .engineJob)
    (h4 : r ≠ .faultInfo) (h5 : r ≠ .resetCause) (s : State) : r.readEffect s = s := by
  cases r <;> first | rfl | contradiction

namespace State

variable (s : State)

/-- R192: a write of COMMAND, whatever its code. -/
theorem windowWrite_code (code arg : Byte) :
    s.windowWrite 0x01 (code ++ arg) = s.takeCommand code arg (commandEffect code arg) := by
  have hc : field (code ++ arg) 8 8 = code := field_hi _ _
  have ha : field (code ++ arg) 0 8 = arg := field_lo _ _
  rw [windowWrite, show Reg.ofAddr 0x01 = some .command from rfl]
  simp only [hc, ha]

/-- R191: a write of any other register: what it stores, or the complement. -/
theorem windowWrite_regAddr {r : Reg} (hr : r ≠ .command) (d : Word) : s.windowWrite (regAddr r) d =
    (r.writeEffect d).elim (s.respond (regAddr r) (~~~d)) (s.takeWrite (regAddr r) d) := by
  rw [windowWrite, ofAddr_regAddr]
  cases r <;> first | contradiction | rfl

/-- R191: a write that is ignored. -/
theorem windowWrite_ignored {addr : Byte} (h : ∀ r, regAddr r = addr → writable r = false ∧ r ≠ .command) (d : Word) :
    s.windowWrite addr d = answered s addr (~~~d) := by
  by_cases hr : ∃ r, regAddr r = addr
  · obtain ⟨r, rfl⟩ := hr
    obtain ⟨fixed, other⟩ := h r rfl
    rw [s.windowWrite_regAddr other, Reg.writeEffect_eq_none fixed]
    rfl
  · rw [windowWrite, ofAddr_eq_none (not_exists.1 hr)]
    rfl

/-! ## Rows as accesses (log 7) -/

/-- A row of a register's write is the write of the window at its address. -/
theorem hostWrite_eq_access (r : Reg) {addr : Byte} {d : Word} {f : State → State} (ha : regAddr r = addr)
    (hr : r ≠ .command) (hf : r.writeEffect d = some f) :
    s.hostWrite addr d f = s.hostAccess fun t => t.windowWrite addr d := by
  subst ha
  simp only [windowWrite_regAddr _ hr, hf]
  rfl

/-- A row of a register's read is the read of the window at its address. -/
theorem hostRead_eq_access (r : Reg) :
    s.hostRead (regAddr r) r.readEffect r.value = s.hostAccess fun t => t.windowRead (regAddr r) := by
  simp only [windowRead, ofAddr_regAddr]
  rfl

end State

variable {i : Instr} (s : State)

/-- A command row is the command of its code. -/
theorem exec_of_commandBytes {code arg : Byte} (h : commandBytes i = some (code, arg)) :
    exec i s = .next (s.hostAccess fun t => t.takeCommand code arg (commandEffect code arg)) := by
  cases i <;> cases h <;> rfl

theorem writeBytes_of_commandBytes {code arg : Byte} (h : commandBytes i = some (code, arg)) :
    writeBytes i = some (0x01, code ++ arg) := by
  cases i <;> cases h <;> rfl

/-- A row of a register's write is the write of the window. -/
theorem exec_of_registerBytes {addr : Byte} {d : Word} (hb : commandBytes i = none) (h : writeBytes i = some (addr, d)) :
    exec i s = .next (s.hostAccess fun t => t.windowWrite addr d) := by
  have write : ∀ (r : Reg) {a : Byte} {e : Word} {f : State → State}, regAddr r = a → r ≠ .command →
      r.writeEffect e = some f → (.next (s.hostWrite a e f) : Out) = .next (s.hostAccess fun t => t.windowWrite a e) :=
    fun r _ _ _ ha hr hf => congrArg _ (s.hostWrite_eq_access r ha hr hf)
  cases i <;> cases hb <;> cases h
  case registerWrite => rfl
  case stagingFieldWrite r =>
    rw [← stgAddr_eq]
    exact write (.staging r) (stgAddr_eq r).symm nofun rfl
  case capCtrlWrite => exact write .capCtrl rfl nofun rfl
  case resultSelWrite => exact write .resultSel rfl nofun rfl
  case triplogSelWrite => exact write .triplogSel rfl nofun rfl
  case swCfgWrite n =>
    rw [← (swAddr_eq n).1]
    exact write (.swCfg n) (swAddr_eq n).1.symm nofun rfl
  case swTripsWrite n =>
    rw [← (swAddr_eq n).2]
    exact write (.swTrips n) (swAddr_eq n).2.symm nofun rfl
  case pwmCtrlWrite c =>
    rw [← pwmAddr_ctrl]
    exact write (.pwmCtrl c) (pwmAddr_ctrl c).symm nofun rfl
  case pwmConfigWrite c r =>
    rw [← pwmAddr_config]
    exact write (.pwmConfig c r) (pwmAddr_config c r).symm nofun rfl
  case evtLatchWrite => exact write .evtLatch rfl nofun rfl
  case evtEnableWrite => exact write .evtEnable rfl nofun rfl
  case irqCtrlWrite => exact write .irqCtrl rfl nofun rfl

/-- A write row, a command row among them, is the write of the window. -/
theorem exec_of_writeBytes {addr : Byte} {d : Word} (h : writeBytes i = some (addr, d)) :
    exec i s = .next (s.hostAccess fun t => t.windowWrite addr d) := by
  cases hb : commandBytes i with
  | some b =>
    obtain ⟨code, arg⟩ := b
    cases (writeBytes_of_commandBytes hb).symm.trans h
    rw [exec_of_commandBytes s hb]
    simp only [State.windowWrite_code]
  | none => exact exec_of_registerBytes s hb h

/-- A read row is the read of the window. -/
theorem exec_of_readAddr {addr : Byte} (h : readAddr i = some addr) :
    exec i s = .next (s.hostAccess fun t => t.windowRead addr) := by
  cases i <;> cases h
  case timeLoRead => exact congrArg Host.Outcome.next (s.hostRead_eq_access .timeLo)
  case queueEntryRead => exact congrArg Host.Outcome.next (s.hostRead_eq_access .queueEntry)
  case engineJobRead => exact congrArg Host.Outcome.next (s.hostRead_eq_access .engineJob)
  case faultInfoRead => exact congrArg Host.Outcome.next (s.hostRead_eq_access .faultInfo)
  case resetCauseRead => exact congrArg Host.Outcome.next (s.hostRead_eq_access .resetCause)

end Sys2Proof.Machine
end

section
/-! PROOF. Frames: which are rejected or ignored, and that the frame of a row does what the row does (R186 to R188,
R190). -/

namespace Sys2Proof.Machine

open Sys2Proof.Safety

namespace State

variable {s : State}

/-! ## Frames that carry no access -/

theorem frame_rejected {w : BitVec 32} (h : Ready s) (h' : s.port.selected = false) (hw : frameAccepted w = false) :
    s.frame w = (s.rejectFrame.shiftOut s.port.response 32).setSelected true := by
  simp [frame, h, h', judgeFrame, hw]

theorem frame_selected (h : Ready s) (h' : s.port.selected = true) (w : BitVec 32) : s.frame w = s := by
  simp [frame, h, h']

theorem frame_inReset (h : s.port.inReset = true) (w : BitVec 32) : s.frame w = s.setSelected true := if_pos h

theorem frameCutShort_taken (h : Ready s) (h' : s.port.selected = false) (k : Fin 32) :
    s.frameCutShort k = (s.rejectFrame.shiftOut s.port.response k).setSelected false := by
  simp [frameCutShort, h, h']

theorem frameCutShort_ignored (h : s.port.inReset = true ∨ s.port.selected = true) (k : Fin 32) :
    s.frameCutShort k = s.setSelected false := if_pos h

/-- What a rejected frame leaves, as the statement writes it: the latch does not touch FAULT, and the port keeps the
rest. -/
theorem rejectFrame_shifted (s : State) (bits : Nat) (b : Bool) :
    (s.rejectFrame.shiftOut s.port.response bits).setSelected b = { s.occur .frameRejected with port := { s.port with
      response :=
        { rej := true, rst := s.port.resetIndication, irq := (s.occur .frameRejected).events.irq, flt := s.events.fault,
          addr := 0, data := 0 }
      shifted := ⟨s.port.response.word, bits⟩, selected := b } } := by
  rw [← s.occur_fault .frameRejected]
  rfl

/-- R190: an accepted read of a register whose read has no effect of its own. -/
theorem windowRead_plain (s : State) {r : Reg} (h : r.readEffect s = s) :
    s.windowRead (regAddr r) = answered s (regAddr r) (r.value s) := by
  rw [windowRead, ofAddr_regAddr]
  simp only [takeRead, h]
  rfl

theorem windowRead_unmapped (s : State) {addr : Byte} (h : ∀ r, regAddr r ≠ addr) :
    s.windowRead addr = answered s addr 0 := by
  rw [windowRead, ofAddr_eq_none h]
  rfl

end State

theorem frameAccepted_eq_false {w : BitVec 32} (h : field w 0 4 ≠ check (field w 4 28) ∨ field w 28 3 ≠ 0) :
    frameAccepted w = false := by
  rw [frameAccepted, Bool.and_eq_false_iff, beq_eq_false_iff_ne, beq_eq_false_iff_ne]
  exact h

/-- Settles O5: each frame falls into one of the cases of FRAME; 0 has the check 7, and all ones have bits 30 to 28
set. -/
theorem framesRejected : Obligations.FramesRejected := by
  refine ⟨fun s w k => ⟨fun hr hs => ⟨fun hw => ?rejected, ?cut⟩, fun hr hs => ⟨?ignored, ?ignoredCut⟩,
    fun hr => ⟨?reset, ?resetCut⟩⟩, ?zeros, ?ones⟩
  case rejected =>
    exact congrArg Host.Outcome.next
      ((State.frame_rejected hr hs (frameAccepted_eq_false hw)).trans (s.rejectFrame_shifted 32 true))
  case cut =>
    refine congrArg Host.Outcome.next
      ((State.frameCutShort_taken hr hs k).trans ((s.rejectFrame_shifted k false).trans ?_))
    rw [← hs]
  case ignored => exact congrArg Host.Outcome.next (State.frame_selected hr hs w)
  case ignoredCut => exact congrArg Host.Outcome.next (State.frameCutShort_ignored (.inr hs) k)
  case reset => exact congrArg Host.Outcome.next (State.frame_inReset hr w)
  case resetCut => exact congrArg Host.Outcome.next (State.frameCutShort_ignored (.inl hr) k)
  case zeros =>
    refine frameAccepted_eq_false (.inl ?_)
    rw [show field (0x00000000 : BitVec 32) 4 28 = 0 by decide, check_zero]
    decide
  case ones => exact frameAccepted_eq_false (.inr (by decide))

/-- The access of the window that a row's frame carries is what the row does. -/
theorem exec_frame_of_framesOf {i : Instr} {w : BitVec 32} {ignored : Word} {s t : State}
    (hw : framesOf i ignored = some w) (hr : Ready s) (hs : s.port.selected = false) (ht : exec i s = .next t) :
    s.frame w = (t.shiftOut s.port.response 32).setSelected true := by
  unfold framesOf at hw
  split at hw
  · next hb =>
    cases hw
    cases (exec_of_writeBytes s hb).symm.trans ht
    rw [State.frame_write hr hs, State.hostAccess_ready hr]
  · next ha =>
    cases hw
    cases (exec_of_readAddr s ha).symm.trans ht
    rw [State.frame_read hr hs, State.hostAccess_ready hr]
  · cases hw

/-- Settles O7: row and frame are the same access of the window; the frame adds what it shifts out, and CSN. -/
theorem frameRunsRow : Obligations.FrameRunsRow :=
  fun _ _ _ _ _ hw hr hs ht => congrArg Host.Outcome.next (exec_frame_of_framesOf hw hr hs ht)

/-- Settles O8: the frame of a read reaches the window, whose read of such a register has no effect of its own. -/
theorem frameReads : Obligations.FrameReads := by
  intro s addr ignored hr hs reads
  have frame : ∀ v, s.windowRead addr = answered s addr v → exec (.frame (readFrame addr ignored)) s = .next (reads v) :=
    fun v hv => congrArg Host.Outcome.next <| (State.frame_read hr hs).trans <|
      congrArg (fun t => (State.shiftOut t s.port.response 32).setSelected true) hv
  refine ⟨fun r ha h1 h2 h3 h4 h5 => frame _ ?_, fun h => frame _ (s.windowRead_unmapped h), rfl⟩
  subst ha
  exact s.windowRead_plain (Reg.readEffect_plain h1 h2 h3 h4 h5 s)

/-- Settles O9: the decoder of addresses is the inverse of the map, and a write finds nothing to write. -/
theorem registerMap : Obligations.RegisterMap :=
  ⟨ofAddr_eq_some_iff, fun s _ d hr h =>
    congrArg Host.Outcome.next ((State.hostAccess_ready hr _).trans (s.windowWrite_ignored h d))⟩

end Sys2Proof.Machine
end

section
/-! PROOF. How every command ends, and which blocks the commands and the register writes leave alone (R191 to R194,
11.6.5). -/

namespace Sys2Proof.Machine

open Sys2Proof.Safety

/-! ## Results (R193) -/

/-- Every code but that of SOFT_RESET ends with a result; where the result is a refusal, nothing has changed (R192,
R193). -/
theorem commandEffect_result {code : Byte} (hc : code ≠ 0x60) (arg : Byte) (s : State) :
    ∃ mid r, commandEffect code arg s = .result mid r ∧ (r.isRefusal = true → mid = s) := by
  cases h : Command.ofCode code with
  | none => exact ⟨s, .unknownCommand, by rw [commandEffect, h], fun _ => rfl⟩
  | some c =>
    cases Command.code_of_ofCode h
    rw [commandEffect_code]
    exact c.effect_result (by rintro rfl; exact hc rfl) arg s

/-- A command row, from what its code ends with. -/
theorem exec_command_finished {i : Instr} {code arg : Byte} {s mid : State} {r : ResultCode} (hr : Ready s)
    (hb : commandBytes i = some (code, arg)) (he : commandEffect code arg s = .result mid r) :
    exec i s = .next (finished mid code arg r) := by
  rw [exec_of_commandBytes s hb, State.hostAccess_ready hr, State.takeCommand_result he, State.endCommand_respond]

theorem commandEffect_unknown {code : Byte} (h : code ∉ commandCodes) (arg : Byte) (s : State) :
    commandEffect code arg s = .result s .unknownCommand := by
  rw [commandEffect, Command.ofCode_eq_none h]

theorem cmdResult_finished (t : State) (code arg : Byte) (r : ResultCode) :
    Reg.value .cmdResult (finished t code arg r) = code ++ r.code := rfl

/-- Settles O10: the codes one by one, and each row from what its command's effect ends with. -/
theorem commandResults : Obligations.CommandResults := by
  refine ⟨⟨fun r => ?numbers, fun r => ?refusals, fun _ => .rfl, fun i code arg s hb hc hr => ?row, fun s d hr => ?write,
    rfl⟩, fun s code arg hr hc => ?unknown⟩
  case numbers => cases r <;> rfl
  case refusals => cases r <;> decide
  case row =>
    obtain ⟨mid, r, he, hm⟩ := commandEffect_result hc arg s
    exact ⟨mid, r, exec_command_finished hr hb he, cmdResult_finished mid code arg r, hm⟩
  case write =>
    refine registerMap.2 s 0x02 d hr fun r ha => ?_
    cases (ofAddr_eq_some_iff 0x02 r).2 ha
    exact ⟨rfl, nofun⟩
  case unknown => exact exec_command_finished hr rfl (commandEffect_unknown hc arg s)

/-! ## Frames (R191, R192) -/

namespace State

variable {bs : List Block} (s : State)

theorem hostAccess_within {f : State → State} (h : Within bs s (f s)) : Within bs s (s.hostAccess f) := .ite .refl h

/-- Taking a command adds its result, its refusal latch and its response to its effect. -/
theorem takeCommand_within (code arg : Byte) {effect : State → CommandEnd} (h : Within bs s (effect s).state) :
    Within (.events :: .port :: bs) s (s.takeCommand code arg effect) := by
  have effectWithin : Within (.events :: .port :: bs) s (effect s).state := h.mono (by simp)
  unfold takeCommand
  cases he : effect s with
  | result t r =>
    rw [he] at effectWithin
    have ends : Within [.events, .port] t ((t.endCommand code r).respond 0x01 (code ++ arg)) :=
      (endCommand_within ..).seq (respond_within ..)
    exact effectWithin.trans (ends.mono (by simp))
  | reset t =>
    rw [he] at effectWithin
    exact effectWithin

theorem resetAll_within (cause : ResetCause) (inReset : Bool) :
    Within (commandBlocks .softReset) s (s.resetAll cause inReset) := ⟨fun b hb => by
  cases b <;> first | rfl | exact (hb (by decide)).elim⟩

theorem softReset_within : Within (commandBlocks .softReset) s s.softReset.state := by
  unfold softReset
  split
  · exact .refl
  · exact s.resetAll_within .soft false

/-- A write of any register but COMMAND adds its response to what it stores. -/
theorem windowWrite_within {r : Reg} (hr : r ≠ .command) (d : Word) :
    Within (.port :: writeBlocks r) s (s.windowWrite (regAddr r) d) := by
  have response : ∀ (t : State) (v : Word), Within (.port :: writeBlocks r) t (t.respond (regAddr r) v) := fun t v =>
    (t.respond_within _ v).mono (by simp)
  rw [s.windowWrite_regAddr hr]
  cases hf : r.writeEffect d with
  | none => exact response s _
  | some f => exact ((r.writeEffect_within d f s hf).mono (by simp)).trans (response (f s) d)

end State

/-- Every command, SOFT_RESET among them, stays within its blocks. -/
theorem Command.effect_within_all (c : Command) (arg : Byte) (s : State) :
    Within (commandBlocks c) s (c.effect arg s).state := by
  by_cases hc : c = .softReset
  · subst hc
    exact s.softReset_within
  · exact c.effect_within arg s hc

/-- Settles O51: a row changes what its effect changes, and what the port does around it. -/
theorem rowFrames : Obligations.RowFrames := by
  refine ⟨fun i c arg s t hb ht => ?command, fun i r d s t hb hr ht => ?write⟩
  case command =>
    cases (exec_of_commandBytes s hb).symm.trans ht
    rw [commandEffect_code]
    exact s.hostAccess_within (s.takeCommand_within _ _ (c.effect_within_all arg s))
  case write =>
    cases (exec_of_writeBytes s hb).symm.trans ht
    exact s.hostAccess_within (s.windowWrite_within hr d)

end Sys2Proof.Machine
end

section
/-! PROOF. A step takes the command at the front of the queue; with none waiting the part idles (00 section 2, log 1). -/

namespace Sys2Proof.Machine

variable {s : State}

theorem step_of_pending_cons {c : Instr} {rest : List Instr} (h : s.pending = c :: rest) :
    step s = exec c (s.withPending rest) := by
  unfold step
  rw [h]

theorem step_of_pending_nil (h : s.pending = []) : step s = .next s := by
  unfold step
  rw [h]

/-- Settles O1: what waits decides the step, and the command that is taken leaves the queue. -/
theorem stepRunsFront : Obligations.StepRunsFront := fun _ _ _ =>
  ⟨step_of_pending_cons rfl, step_of_pending_nil rfl⟩

end Sys2Proof.Machine
end
